-- ==== Sys2Proof/Word.lean ====
section
/-! DEFINITION. Word.lean: the words of the part's ports and links, and the fixed-size record table. -/
namespace Sys2Proof

/-- One byte of a frame or unit (chapter 11). -/
abbrev Byte := BitVec 8

/-- A window value: four bytes (R197). -/
abbrev Word := BitVec 32

/-- A drive link tag: 8 bits, wrapping from 255 to 0 (R25). -/
abbrev Tag := BitVec 8

/-- A table of exactly `n` records, numbered from 0 (00_scope.md 4.3). -/
structure Table (α : Type) (n : Nat) where
  /-- the records, in index order -/
  rows : List α
  /-- there are exactly `n` of them -/
  size : rows.length = n
  deriving DecidableEq, Repr

end Sys2Proof
end

