-- ==== Sys2Proof/Config.lean ====
section
/-! DEFINITION. Config.lean: the capacities of the part (00_scope.md section 6). The spec leaves no value of a
command free, so Config holds no free value. -/
namespace Sys2Proof.Config

/-- Actuators, and drive links (00_scope.md section 6). -/
abbrev actuators : Nat := 8
/-- Zone entries (R3). -/
abbrev zones : Nat := 32
/-- Gauge records (R83). -/
abbrev gauges : Nat := 512
/-- Scanner links (R92). -/
abbrev scanners : Nat := 4
/-- Channels of one scanner (R84). -/
abbrev channels : Nat := 128
/-- Crack-wire loops (R125). -/
abbrev loops : Nat := 24
/-- Acoustic sensors (R133). -/
abbrev sensors : Nat := 16
/-- Crack records (R145). -/
abbrev cracks : Nat := 48
/-- Entries of the pending hit list (R138). -/
abbrev pendingHits : Nat := 32
/-- Loops one crack record lists (R152). -/
abbrev loopsPerCrack : Nat := 8
/-- Highest station of the girder, mm (R1). -/
abbrev maxStation : Nat := 65000
/-- The pass count at which the test comes to rest whatever the target (R66). -/
abbrev maxPasses : Nat := 4294967295

end Sys2Proof.Config
end

