-- ==== Sys2Proof/Syntax.lean ====
section
/-! DEFINITION. Syntax.lean: the commands of the part, one constructor per row of spec/opcode_table.json. -/
namespace Sys2Proof

/-- The five blocks that take a part in RESTART (R180), in the order SP sends to them. -/
inductive Block where
  | gsc | cwu | ach | lsq | zdu
  deriving DecidableEq, Repr

/-- The owners that sweep records during a REZONE (R15). -/
inductive Owner where
  | gsc | cwu | ach
  deriving DecidableEq, Repr

/-- The attention classes of kind event, 0..11 (R175). -/
inductive EventClass where
  | seqState | passDone | intervalClosed | opDone | actFault | loopBroken
  | crackOpened | crackState | crackTableFull | zoneDerate | bankEvent | portOverrun
  deriving DecidableEq, Repr

/-- The attention classes of kind condition, 12..15 (R175). -/
inductive CondClass where
  | linkLost | anyOver | anyFault | anyAlert
  deriving DecidableEq, Repr

/-- An edge of a condition class (R175). -/
inductive Edge where
  | entry | exit
  deriving DecidableEq, Repr

/-- A link that has a link state: a drive link or a scanner link (R176). -/
inductive Link where
  | drive (a : Fin Config.actuators)
  | scanner (k : Fin Config.scanners)
  deriving DecidableEq, Repr

/-- The cause of an actuator's FAULT (R20). -/
inductive ActCause where
  | link | card | following | stroke | slow
  deriving DecidableEq, Repr

/-- The quality of a reading (chapter 5, 11.5). -/
inductive Quality where
  | good | overrange | open | shunted
  deriving DecidableEq, Repr

/-- The commands: the rows of spec/opcode_table.json. A host request carries `tail`, the bytes of its frame after
the request code (the length byte, then the parameters, R167); a link message carries the unit's bytes (R196). -/
inductive Instr where
  /-- FETCH (00H, R171), with the number of bytes the host clocks after the code. -/
  | fetch (clocked : Nat)
  /-- STATUS (01H, R173). -/
  | status (tail : List Byte)
  /-- READ ATTENTION (02H, R178). -/
  | readAttention (tail : List Byte)
  /-- SET ATTENTION (03H, R179). -/
  | setAttention (tail : List Byte)
  /-- RESTART (04H, R180). -/
  | restart (tail : List Byte)
  /-- SET WINDOW (10H, R184). -/
  | setWindow (tail : List Byte)
  /-- READ DATA (11H, R187). -/
  | readData (tail : List Byte)
  /-- WRITE DATA (12H, R188). -/
  | writeData (tail : List Byte)
  /-- AMEND ON (13H, R190). -/
  | amendOn (tail : List Byte)
  /-- AMEND OFF (14H, R190). -/
  | amendOff (tail : List Byte)
  /-- FIND (15H, R192, R193). -/
  | find (tail : List Byte)
  /-- ARM (21H, R59). -/
  | arm (tail : List Byte)
  /-- START (22H, R61). -/
  | start (tail : List Byte)
  /-- HALT (23H, R71). -/
  | halt (tail : List Byte)
  /-- STOP NOW (24H, R73). -/
  | stopNow (tail : List Byte)
  /-- RESUME (25H, R75). -/
  | resume (tail : List Byte)
  /-- REST (26H, R76). -/
  | rest (tail : List Byte)
  /-- DISARM (27H, R78). -/
  | disarm (tail : List Byte)
  /-- SET SCALE (28H, R67). -/
  | setScale (tail : List Byte)
  /-- TRIM UP (29H, R67). -/
  | trimUp (tail : List Byte)
  /-- TRIM DOWN (2AH, R67). -/
  | trimDown (tail : List Byte)
  /-- CLOSE INTERVAL (2BH, R80). -/
  | closeInterval (tail : List Byte)
  /-- CLEAR PASSES (2CH, R80). -/
  | clearPasses (tail : List Byte)
  /-- REZONE (30H, R13). -/
  | rezone (tail : List Byte)
  /-- SET ZONE DERATE (31H, R5). -/
  | setZoneDerate (tail : List Byte)
  /-- ENABLE ACTUATOR (40H, R22). -/
  | enableActuator (tail : List Byte)
  /-- DISABLE ACTUATOR (41H, R23). -/
  | disableActuator (tail : List Byte)
  /-- CLEAR FAULT (42H, R24). -/
  | clearFault (tail : List Byte)
  /-- COMMIT BANK (50H, R48). -/
  | commitBank (tail : List Byte)
  /-- SWAP BANK (51H, R50). -/
  | swapBank (tail : List Byte)
  /-- CANCEL SWAP (52H, R54). -/
  | cancelSwap (tail : List Byte)
  /-- OPEN GAUGE (60H, R87). -/
  | openGauge (tail : List Byte)
  /-- RETIRE GAUGE (61H, R88). -/
  | retireGauge (tail : List Byte)
  /-- SUSPEND GAUGE (62H, R89). -/
  | suspendGauge (tail : List Byte)
  /-- WATCH GAUGE (63H, R90). -/
  | watchGauge (tail : List Byte)
  /-- ZERO (64H, R98). -/
  | zero (tail : List Byte)
  /-- SHUNT (65H, R100). -/
  | shunt (tail : List Byte)
  /-- ENABLE LOOP (70H, R129). -/
  | enableLoop (tail : List Byte)
  /-- REARM LOOP (71H, R130). -/
  | rearmLoop (tail : List Byte)
  /-- DISABLE LOOP (72H, R131). -/
  | disableLoop (tail : List Byte)
  /-- OPEN CRACK (80H, R160). -/
  | openCrack (tail : List Byte)
  /-- CONFIRM CRACK (81H, R161). -/
  | confirmCrack (tail : List Byte)
  /-- ARREST CRACK (82H, R162). -/
  | arrestCrack (tail : List Byte)
  /-- RETIRE CRACK (83H, R163). -/
  | retireCrack (tail : List Byte)
  /-- A frame whose code is not a request code (R167). -/
  | unknown (code : Byte) (tail : List Byte)
  /-- An owner answers SP (R169). With a block: its share of a request SP has put to several owners, its event and its
  answer (R174, R186, R189); with none, the row by itself: the answer on its way fills the
  slot. -/
  | answerToSlot (owner : Option Block := none)
  /-- A block's event report reaches SP (R175). -/
  | attentionEventReport (c : EventClass)
  /-- A block's condition edge reaches SP (R175). -/
  | conditionEdgeReport (c : CondClass) (e : Edge)
  /-- A link entering (`lost`) or leaving LOST is reported to SP (R176). -/
  | linkReport (l : Link) (lost : Bool)
  /-- A block takes its part of RESTART (R180). -/
  | restartNotice (b : Block)
  /-- A block's restart-done notice reaches SP (R180). -/
  | restartPartDone (b : Block)
  /-- GSC's claim OVER_ENTER(z) reaches the ZDU (R6). -/
  | overEnter (z : Nat)
  /-- GSC's claim OVER_LEAVE(z) reaches the ZDU (R6). -/
  | overLeave (z : Nat)
  /-- GSC's claim FAULT_ENTER(z) reaches the ZDU (R6). -/
  | faultEnter (z : Nat)
  /-- GSC's claim FAULT_LEAVE(z) reaches the ZDU (R6). -/
  | faultLeave (z : Nat)
  /-- CWU's claim CRACK_DERATE(z, value, crack count) reaches the ZDU (R7). -/
  | crackDerate (z value count : Nat)
  /-- LOAD_MASK(set of zones) reaches the ZDU (R10); bit z stands for zone z. -/
  | loadMask (set : BitVec 32)
  /-- DERATE_FALL(z) reaches LSQ (R68). -/
  | derateFall (z : Nat)
  /-- STRAIN_TRIP reaches LSQ (R71). -/
  | strainTrip
  /-- CRACK_GROWTH reaches LSQ (R71). -/
  | crackGrowth
  /-- CRACK_TABLE_FULL reaches LSQ (R71). -/
  | crackTableFull
  /-- The ZDU tells LSQ of the opening or closing of a REZONE (R17). -/
  | rezoneStateNotice (isOpen : Bool)
  /-- A SET drive command reaches ACH (R26). -/
  | setCommand (a : Fin Config.actuators) (target : Int) (ramp : Nat)
  /-- A HOLD drive command reaches ACH (R27). -/
  | holdCommand (a : Fin Config.actuators)
  /-- A FREE drive command reaches ACH (R28). -/
  | freeCommand (a : Fin Config.actuators)
  /-- SETTLED(a, tag) reaches LSQ (R57). -/
  | settled (a : Fin Config.actuators) (tag : Tag)
  /-- ACT_FAULT(a, cause) reaches LSQ (R74). -/
  | actFault (a : Fin Config.actuators) (cause : ActCause)
  /-- FREED(a) reaches LSQ (R78). -/
  | freed (a : Fin Config.actuators)
  /-- The dwell timer expires (R64). -/
  | dwellTimerExpiry
  /-- An owner takes the sweep order (R15). -/
  | rezoneSweep (o : Owner)
  /-- An owner sweeps the record at its cursor (R86, R38, R142, R165). -/
  | sweepRecord (o : Owner)
  /-- SWEPT reaches the ZDU (R15). -/
  | swept (o : Owner)
  /-- An owner's SWEEP_DONE reaches the ZDU (R16). -/
  | sweepDone (o : Owner)
  /-- A unit arrives from a card on drive link `a` (R29, R196). -/
  | report (a : Fin Config.actuators) (unit : List Byte)
  /-- A drive link's report timer expires (R30). -/
  | reportTimerExpiry (a : Fin Config.actuators)
  /-- An actuator's settle timer expires (R34). -/
  | settleTimerExpiry (a : Fin Config.actuators)
  /-- An actuator's free timer expires (R35). -/
  | freeTimerExpiry (a : Fin Config.actuators)
  /-- A unit arrives on scanner link `k` (R92, R196). -/
  | scanFrame (k : Fin Config.scanners) (unit : List Byte)
  /-- One reading of a taken frame (R95); the value is two bytes, signed. -/
  | reading (k : Fin Config.scanners) (channel : Byte) (q : Quality) (value : BitVec 16)
  /-- A scanner's link timer expires (R93). -/
  | scannerLinkTimerExpiry (k : Fin Config.scanners)
  /-- GSC takes INTERVAL_CLOSE (R118). -/
  | gscIntervalClose (n : BitVec 16)
  /-- A loop input changes to closed or open (R126). -/
  | loopLineChange (l : Fin Config.loops) (closed : Bool)
  /-- A loop's confirm timer expires (R127). -/
  | confirmTimerExpiry (l : Fin Config.loops)
  /-- A unit arrives on the hit link (R135, R196). -/
  | hit (unit : List Byte)
  /-- CWU takes INTERVAL_CLOSE (R157). -/
  | cwuIntervalClose (n : BitVec 16)
  /-- The reset line is asserted (R181). -/
  | deviceReset
  /-- The reset line is released (R126, R181). -/
  | resetRelease
  deriving DecidableEq, Repr

end Sys2Proof
end

