-- ==== Sys2Proof/Decode.lean ====
section
/-! DEFINITION. Decode.lean: the port frames of the host requests and the command each spells (11.1, 11.2), in both
directions, and decodeTableWord, which is none throughout: the table gives no row bits. -/
namespace Sys2Proof

/-- The request a frame's code names, with the bytes after the code (R167, 11.2). -/
def requestOf (code : Byte) (tail : List Byte) : Instr :=
  match code.toNat with
  | 0x00 => .fetch tail.length
  | 0x01 => .status tail
  | 0x02 => .readAttention tail
  | 0x03 => .setAttention tail
  | 0x04 => .restart tail
  | 0x10 => .setWindow tail
  | 0x11 => .readData tail
  | 0x12 => .writeData tail
  | 0x13 => .amendOn tail
  | 0x14 => .amendOff tail
  | 0x15 => .find tail
  | 0x21 => .arm tail
  | 0x22 => .start tail
  | 0x23 => .halt tail
  | 0x24 => .stopNow tail
  | 0x25 => .resume tail
  | 0x26 => .rest tail
  | 0x27 => .disarm tail
  | 0x28 => .setScale tail
  | 0x29 => .trimUp tail
  | 0x2A => .trimDown tail
  | 0x2B => .closeInterval tail
  | 0x2C => .clearPasses tail
  | 0x30 => .rezone tail
  | 0x31 => .setZoneDerate tail
  | 0x40 => .enableActuator tail
  | 0x41 => .disableActuator tail
  | 0x42 => .clearFault tail
  | 0x50 => .commitBank tail
  | 0x51 => .swapBank tail
  | 0x52 => .cancelSwap tail
  | 0x60 => .openGauge tail
  | 0x61 => .retireGauge tail
  | 0x62 => .suspendGauge tail
  | 0x63 => .watchGauge tail
  | 0x64 => .zero tail
  | 0x65 => .shunt tail
  | 0x70 => .enableLoop tail
  | 0x71 => .rearmLoop tail
  | 0x72 => .disableLoop tail
  | 0x80 => .openCrack tail
  | 0x81 => .confirmCrack tail
  | 0x82 => .arrestCrack tail
  | 0x83 => .retireCrack tail
  | _ => .unknown code tail

/-- The command a port transaction's bytes spell; a transaction with no byte is no arrival (R167). -/
def decodeFrame : List Byte → Option Instr
  | [] => none
  | code :: tail => some (requestOf code tail)

/-- The bytes of the transaction a host request stands for; none for a command that is no host request. The bytes the
host clocks after a FETCH code are ignored (R167), and written 00H here. -/
def encodeFrame : Instr → Option (List Byte)
  | .fetch clocked => some (0x00 :: List.replicate clocked 0)
  | .status t => some (0x01 :: t)
  | .readAttention t => some (0x02 :: t)
  | .setAttention t => some (0x03 :: t)
  | .restart t => some (0x04 :: t)
  | .setWindow t => some (0x10 :: t)
  | .readData t => some (0x11 :: t)
  | .writeData t => some (0x12 :: t)
  | .amendOn t => some (0x13 :: t)
  | .amendOff t => some (0x14 :: t)
  | .find t => some (0x15 :: t)
  | .arm t => some (0x21 :: t)
  | .start t => some (0x22 :: t)
  | .halt t => some (0x23 :: t)
  | .stopNow t => some (0x24 :: t)
  | .resume t => some (0x25 :: t)
  | .rest t => some (0x26 :: t)
  | .disarm t => some (0x27 :: t)
  | .setScale t => some (0x28 :: t)
  | .trimUp t => some (0x29 :: t)
  | .trimDown t => some (0x2A :: t)
  | .closeInterval t => some (0x2B :: t)
  | .clearPasses t => some (0x2C :: t)
  | .rezone t => some (0x30 :: t)
  | .setZoneDerate t => some (0x31 :: t)
  | .enableActuator t => some (0x40 :: t)
  | .disableActuator t => some (0x41 :: t)
  | .clearFault t => some (0x42 :: t)
  | .commitBank t => some (0x50 :: t)
  | .swapBank t => some (0x51 :: t)
  | .cancelSwap t => some (0x52 :: t)
  | .openGauge t => some (0x60 :: t)
  | .retireGauge t => some (0x61 :: t)
  | .suspendGauge t => some (0x62 :: t)
  | .watchGauge t => some (0x63 :: t)
  | .zero t => some (0x64 :: t)
  | .shunt t => some (0x65 :: t)
  | .enableLoop t => some (0x70 :: t)
  | .rearmLoop t => some (0x71 :: t)
  | .disableLoop t => some (0x72 :: t)
  | .openCrack t => some (0x80 :: t)
  | .confirmCrack t => some (0x81 :: t)
  | .arrestCrack t => some (0x82 :: t)
  | .retireCrack t => some (0x83 :: t)
  | .unknown code t => some (code :: t)
  | .answerToSlot _ | .attentionEventReport _ | .conditionEdgeReport _ _ | .linkReport _ _ => none
  | .restartNotice _ | .restartPartDone _ => none
  | .overEnter _ | .overLeave _ | .faultEnter _ | .faultLeave _ | .crackDerate _ _ _ | .loadMask _ => none
  | .derateFall _ | .strainTrip | .crackGrowth | .crackTableFull | .rezoneStateNotice _ => none
  | .setCommand _ _ _ | .holdCommand _ | .freeCommand _ | .settled _ _ | .actFault _ _ | .freed _ => none
  | .dwellTimerExpiry | .rezoneSweep _ | .sweepRecord _ | .swept _ | .sweepDone _ => none
  | .report _ _ | .reportTimerExpiry _ | .settleTimerExpiry _ | .freeTimerExpiry _ => none
  | .scanFrame _ _ | .reading _ _ _ _ | .scannerLinkTimerExpiry _ | .gscIntervalClose _ => none
  | .loopLineChange _ _ | .confirmTimerExpiry _ | .hit _ | .cwuIntervalClose _ | .deviceReset | .resetRelease => none

/-- The command a word spells by the opcode table's bits: the table gives no row bits, so none. -/
def decodeTableWord (_nbits _w : Nat) : Option Instr := none

end Sys2Proof
end

