-- ==== Sys2Proof/Machine/Table.lean ====
section
/-! DEFINITION. Machine/Table.lean: reading and writing one record of a table, and a whole table at once. -/
namespace Sys2Proof.Table

variable {α β : Type} {n : Nat}

/-- The table with every record equal to `x`. -/
def fill (n : Nat) (x : α) : Table α n := ⟨List.replicate n x, by simp⟩

/-- Record `i`. -/
def get (t : Table α n) (i : Fin n) : α := t.rows[i.val]'(by rw [t.size]; exact i.isLt)

/-- The table with record `i` replaced by `x`. -/
def set (t : Table α n) (i : Fin n) (x : α) : Table α n := ⟨t.rows.set i.val x, by simp [t.size]⟩

/-- Every record changed by `f`. -/
def map (f : α → β) (t : Table α n) : Table β n := ⟨t.rows.map f, by simp [t.size]⟩

/-- Record `i` changed by `f`. -/
def modify (t : Table α n) (i : Fin n) (f : α → α) : Table α n := t.set i (f (t.get i))

/-- `i` as a record number of a table of `n`, where it is one. -/
def index? (n i : Nat) : Option (Fin n) := if h : i < n then some ⟨i, h⟩ else none

/-- Record `i`, or `d` where the table has none. -/
def getD (t : Table α n) (i : Nat) (d : α) : α :=
  match index? n i with
  | some k => t.get k
  | none => d

/-- Record `i` replaced by `x`, where the table has it. -/
def setD (t : Table α n) (i : Nat) (x : α) : Table α n :=
  match index? n i with
  | some k => t.set k x
  | none => t

end Sys2Proof.Table
end

