-- ==== Sys2Proof/Machine/State.lean ====
section
/-! DEFINITION. Machine/State.lean: everything the spec gives the part, as plain data, and its state after reset. -/
namespace Sys2Proof.Machine

/-- The reasons the machine can stop. Every row of the table has an effect in every state (a refused request is an
answer, R172; a bad unit is discarded, R196), so there is none. -/
inductive Fault
  deriving DecidableEq, Repr

/-- The reasons a command can be refused by the model. -/
inductive Refusal where
  /-- Raised by an arm of exec whose command has no meaning yet; safe: the model stops where the part goes on. -/
  | notModelled (mnemonic : String)
  deriving DecidableEq, Repr

/-! ### Codes and answers of the station port (chapters 9 and 11) -/

/-- Answer codes an answer in the slot may hold (R172). -/
inductive AnswerCode where
  | done | started | refused
  deriving DecidableEq, Repr

/-- Refusal and skip reasons (9.3.1, 11.5). -/
inductive Reason where
  | none | unknown | format | range | state | pending | rezoneOpen | noActuator | invalid | faultPresent
  | targetReached | link | station | occupied | keyInUse | loadOn | stillOpen | tableFull | confirmedHeld
  | swapPending | readOnly | vacant | bankActive
  deriving DecidableEq, Repr

/-- What an owner answers: code, reason and result data (R172). -/
structure Reply where
  code : AnswerCode
  reason : Reason := .none
  data : List Byte := []
  deriving DecidableEq, Repr

/-- An answer with the request code it answers and the overrun mark (R172). -/
structure Answer where
  request : Byte
  reply : Reply
  overrunMark : Bool := false
  deriving DecidableEq, Repr

/-- The answer slot (R169). -/
inductive Slot where
  | empty
  | working (request : Byte)
  | ready (a : Answer)
  deriving DecidableEq, Repr

/-- The tables open to the window (10.1), in the order of their codes. -/
inductive WTable where
  | gauges | cracks | loops | sensors | zones | actuators | standbyBank | activeBank | settings
  deriving DecidableEq, Repr

/-- Scan orders (R185). -/
inductive ScanOrder where
  | record | field
  deriving DecidableEq, Repr

/-- A set record window with its pointer (R183). -/
structure Window where
  table : WTable
  firstRec : Nat
  lastRec : Nat
  firstField : Nat
  lastField : Nat
  order : ScanOrder
  mask : BitVec 32
  ptrRec : Nat
  ptrField : Nat
  deriving DecidableEq, Repr

/-- The groups of a STATUS answer, as their owners have answered them; empty before (R174). -/
structure StatusGroups where
  lsq : List Byte := []
  zdu : List Byte := []
  ach : List Byte := []
  gsc : List Byte := []
  deriving DecidableEq, Repr

/-- One cell of a READ DATA over SETTINGS, with its value once its owner has answered (R186). -/
structure SettingRead where
  field : Nat
  value : Option Word := none
  deriving DecidableEq, Repr

/-- One claim of a WRITE DATA over SETTINGS, with its outcome once its owner has taken or skipped it: `some none` for
taken, `some (some r)` for skipped (R189). -/
structure SettingClaim where
  field : Nat
  value : Word
  outcome : Option (Option Reason) := none
  deriving DecidableEq, Repr

/-- A request SP has put to several owners, with what they have answered. -/
inductive GatherOp where
  | status (groups : StatusGroups)
  | read (cells : List SettingRead)
  | write (claims : List SettingClaim)
  deriving DecidableEq, Repr

/-- A request put to several owners: the pointer and AMEND bytes its answer shows, and the owners that have not
answered (R174, R186, R189). -/
structure Gather where
  op : GatherOp
  place : List Byte
  waiting : List Block
  deriving DecidableEq, Repr

/-- The Station Port (chapters 9 and 10). -/
structure Sp where
  slot : Slot
  /-- the answer on its way to the slot (R169) -/
  answer : Option Answer
  overrun : Bool
  latches : BitVec 16
  /-- a set bit masks its class (R177) -/
  masks : BitVec 16
  /-- a set bit is edge mode BOTH (R175) -/
  edgeModes : BitVec 4
  condValues : BitVec 4
  /-- drive links 0..7, scanner links 8..11 (R176) -/
  lostLinks : BitVec 12
  /-- the attention line is asserted (R177) -/
  attnLine : Bool
  window : Option Window
  amend : Bool
  /-- while a RESTART runs: the blocks whose part is done (R180) -/
  restartDone : Option (List Block)
  /-- the request several owners are answering, event by event (R174, R186, R189) -/
  gather : Option Gather
  /-- the bytes clocked out in the last FETCH transaction (R171, R195) -/
  dataOut : List Byte
  deriving DecidableEq, Repr

/-! ### Zone Derate Unit (chapter 1) -/

/-- A zone entry (R3). The low station and the gauge derate are derived. -/
structure ZoneEntry where
  manual : Nat := 100
  overDerate : Nat := 70
  crackDerate : Nat := 100
  effective : Nat := 100
  overCount : Nat := 0
  faultCount : Nat := 0
  crackCount : Nat := 0
  loadFlag : Bool := false
  deriving DecidableEq, Repr

/-- An open REZONE: the sweep count and which SWEEP_DONE notices are in (R15, R16). -/
structure Rezone where
  sweepCount : Nat := 0
  gscDone : Bool := false
  cwuDone : Bool := false
  achDone : Bool := false
  deriving DecidableEq, Repr

/-- The Zone Derate Unit. The zone count is the length of the boundary list plus 1 (R1). -/
structure Zdu where
  boundaries : List Nat
  zones : Table ZoneEntry Config.zones
  tripCount : Nat
  tripArmed : Bool
  rezone : Option Rezone
  anyOver : Bool
  anyFault : Bool
  deriving DecidableEq, Repr

/-- An owner's sweep: none, ordered and not begun (cursor 0), or at its next record (R15, R86, R165). -/
inductive Sweep where
  | none
  | ordered
  | at (next : Nat)
  deriving DecidableEq, Repr

/-! ### Actuator Channels (chapter 2) -/

/-- Card statuses (section 2.3). -/
inductive CardStatus where
  | ramping | settled | holding | free | cardFault
  deriving DecidableEq, Repr

/-- Actuator states, the fault cause inside FAULT (R20). -/
inductive ActState where
  | off | standby | driven | holding
  | fault (cause : ActCause)
  deriving DecidableEq, Repr

/-- Link states (R20, R92). -/
inductive LinkState where
  | silent | live | lost
  deriving DecidableEq, Repr

/-- An actuator record with its timers (R20); a running timer holds the time it was started with, ms. `holdOwed`: no
automatic hold has been sent, and the report that next makes the link LIVE is judged for the late one (R37). -/
structure Actuator where
  station : Nat := 0
  zone : Nat := 0
  state : ActState := .off
  compLimit : Int := 0
  tensLimit : Int := 0
  restLoad : Int := 0
  followLimit : Nat := 100
  settleAllow : Nat := 1000
  strokeMin : Int := -32000
  strokeMax : Int := 32000
  lastTarget : Int := 0
  lastRamp : Nat := 0
  lastTag : Tag := 0
  repForce : Int := 0
  repStroke : Int := 0
  repStatus : Option CardStatus := none
  repEcho : Tag := 0
  link : LinkState := .silent
  followRun : Nat := 0
  settledMark : Bool := false
  freeWait : Bool := false
  holdOwed : Bool := false
  settleTimer : Option Nat := none
  reportTimer : Option Nat := none
  freeTimer : Option Nat := none
  deriving DecidableEq, Repr

/-- The Actuator Channels. -/
structure Ach where
  acts : Table Actuator Config.actuators
  reportTimeout : Nat
  freeTime : Nat
  sweep : Sweep
  deriving DecidableEq, Repr

/-! ### Load Sequencer (chapters 3 and 4) -/

/-- Running directions (R40, R49). -/
inductive Direction where
  | forward | reverse
  deriving DecidableEq, Repr

/-- Bank names (R40). -/
inductive BankName where
  | a | b
  deriving DecidableEq, Repr

/-- Items of validation (R47). -/
inductive FailItem where
  | envelope | times | travel | endCount | cell | bed | endLoad
  deriving DecidableEq, Repr

/-- A failing item with its index and actuator where it names them (R47). -/
structure Failing where
  item : FailItem
  index : Option Nat := none
  act : Option Nat := none
  deriving DecidableEq, Repr

/-- Bank states, the failing item inside INVALID (R40). -/
inductive BankState where
  | empty | editing | valid
  | invalid (f : Failing)
  deriving DecidableEq, Repr

/-- A pattern bank (R40). -/
structure Bank where
  len : Nat := 0
  cells : Table Int 16 := Table.fill 16 0
  bed : Int := 0
  lead : Nat := 0
  trail : Nat := 0
  endCount : Nat := 0
  ends : Table Int 14 := Table.fill 14 0
  ramp : Nat := 0
  dwell : Nat := 0
  dir : Direction := .forward
  shuttle : Bool := false
  target : Nat := 0
  state : BankState := .empty
  deriving DecidableEq, Repr

/-- Step phases (R56). -/
inductive StepPhase where
  | ramp | dwell
  deriving DecidableEq, Repr

/-- What HELD interrupted (R56). -/
inductive HeldOrigin where
  | step | rest
  deriving DecidableEq, Repr

/-- Sequencer states with their sub-phase, step phase and held origin (R56, section 4.1). -/
inductive SeqState where
  | idle | arming | ready
  | running (ph : StepPhase)
  | haltingFinish (ph : StepPhase)
  | haltingRest
  | held (origin : HeldOrigin)
  | halted | disarming
  deriving DecidableEq, Repr

/-- Halt causes (R56). -/
inductive HaltCause where
  | none | hostOrderly | targetReached | strainTrip | crackGrowth | crackTableFull | hostImmediate
  | actuatorFault | armFailed
  deriving DecidableEq, Repr

/-- One place of the actuator line: the actuator and its station as read (R44). -/
structure LinePlace where
  act : Fin Config.actuators
  station : Nat
  deriving DecidableEq, Repr

/-- The Load Sequencer: the sequencer record, the banks, the interval clock and the settings (R40, R56, R79, R81). -/
structure Lsq where
  seq : SeqState
  position : Nat
  passCount : Nat
  haltCause : HaltCause
  scale : Nat
  /-- bit a stands for actuator a -/
  faultSet : BitVec 8
  awaited : Table (Option Tag) Config.actuators
  reholdSet : BitVec 8
  freedSet : BitVec 8
  commanded : Table Int Config.actuators
  /-- none while released (R44) -/
  line : Option (List LinePlace)
  direction : Direction
  swapPending : Bool
  active : BankName
  bankA : Bank
  bankB : Bank
  dwellTimer : Option Nat
  intervalAuto : Bool
  intervalLen : Nat
  intervalNumber : BitVec 16
  intervalPasses : Nat
  restRamp : Nat
  derateRamp : Nat
  /-- the REZONE state as the ZDU last told it (R17) -/
  rezoneOpen : Bool
  deriving DecidableEq, Repr

/-! ### Gauge Scanner (chapters 5 and 6) -/

/-- Causes of a gauge's FAULT (R83). -/
inductive GaugeCause where
  | open | range | link | shunt
  deriving DecidableEq, Repr

/-- Gauge states, the fault cause inside FAULT (R83). -/
inductive GaugeState where
  | vacant | waiting | quiet | alert | over
  | fault (cause : GaugeCause)
  | suspended
  deriving DecidableEq, Repr

/-- A limit set (R83, R91). -/
structure LimitSet where
  upper : Int := 32000
  lower : Int := -32000
  alertPct : Nat := 80
  hyst : Nat := 20
  declare : Nat := 3
  deriving DecidableEq, Repr

/-- The live or the held interval of a gauge (R83, R116, R117). -/
structure GaugeInterval where
  exceed : Nat := 0
  max : Option Int := none
  min : Option Int := none
  number : BitVec 16 := 0
  deriving DecidableEq, Repr

/-- A gauge record (R83). -/
structure Gauge where
  state : GaugeState := .vacant
  scanner : Fin Config.scanners := 0
  channel : Fin Config.channels := 0
  station : Nat := 0
  zone : Nat := 0
  overHeld : Bool := false
  zero : Int := 0
  zeroPending : Bool := false
  shuntPending : Bool := false
  setA : LimitSet := {}
  setB : LimitSet := {}
  overRun : Nat := 0
  clearRun : Nat := 0
  lastValue : Int := 0
  lastQuality : Option Quality := none
  lastGood : Option Int := none
  live : GaugeInterval := {}
  held : GaugeInterval := {}
  shuntStep : Int := 500
  shuntTol : Nat := 50
  deriving DecidableEq, Repr

/-- A scanner link and its timer (R92). -/
structure ScannerLink where
  state : LinkState := .silent
  timer : Option Nat := none
  deriving DecidableEq, Repr

/-- A ZERO in progress (R98). -/
structure ZeroOp where
  pending : Nat
  zeroed : Nat
  skipped : Nat
  deriving DecidableEq, Repr

/-- A SHUNT in progress (R100). -/
structure ShuntOp where
  gauge : Fin Config.gauges
  misses : Nat
  deriving DecidableEq, Repr

/-- SHUNT outcomes (R102). -/
inductive ShuntOutcome where
  | none | pass | fail | missed | abandoned
  deriving DecidableEq, Repr

/-- The Gauge Scanner. -/
structure Gsc where
  gauges : Table Gauge Config.gauges
  /-- entry scanner × 128 + channel (R84) -/
  chanMap : Table (Option (Fin Config.gauges)) 512
  links : Table ScannerLink Config.scanners
  linkTimeout : Nat
  zeroOp : Option ZeroOp
  shuntOp : Option ShuntOp
  lastZeroed : Nat
  lastSkipped : Nat
  lastShuntGauge : Nat
  lastShuntOutcome : ShuntOutcome
  /-- the present interval number (R118) -/
  interval : BitVec 16
  sweep : Sweep
  deriving DecidableEq, Repr

/-! ### Crack Watch (chapters 7 and 8) -/

/-- Loop states (R125). -/
inductive LoopState where
  | unused | intact | opening | broken
  deriving DecidableEq, Repr

/-- A wire loop record (R125). -/
structure Loop where
  station : Nat := 0
  zone : Nat := 0
  state : LoopState := .unused
  confirmTime : Nat := 200
  closed : Bool := false
  bound : Option (Fin Config.cracks) := none
  timer : Option Nat := none
  deriving DecidableEq, Repr

/-- An acoustic sensor record (R133). -/
structure Sensor where
  station : Nat := 0
  zone : Nat := 0
  enabled : Bool := false
  deriving DecidableEq, Repr

/-- An entry of the pending hit list (section 7.6). -/
structure Hit where
  sensor : Fin Config.sensors
  time : BitVec 32
  amplitude : Nat
  deriving DecidableEq, Repr

/-- A zone's activity tally (R141). -/
structure Tally where
  count : Nat := 0
  sum : Nat := 0
  min : Option Nat := none
  max : Option Nat := none
  deriving DecidableEq, Repr

/-- Crack states (R145). -/
inductive CrackState where
  | vacant | suspect | confirmed | arrested
  deriving DecidableEq, Repr

/-- How a crack record was opened (R145). -/
inductive Origin where
  | ae | wire | inspection
  deriving DecidableEq, Repr

/-- A crack record (R145). -/
structure Crack where
  state : CrackState := .vacant
  origin : Option Origin := none
  seed : Nat := 0
  zone : Nat := 0
  lo : Nat := 0
  hi : Nat := 0
  confWidth : Nat := 0
  openedPass : Nat := 0
  derate : Nat := 100
  activeRun : Nat := 0
  quietRun : Nat := 0
  hits : Nat := 0
  loops : List (Fin Config.loops) := []
  growthHalt : Bool := false
  note : Nat := 0
  deriving DecidableEq, Repr

/-- The Crack Watch. -/
structure Cwu where
  loops : Table Loop Config.loops
  sensors : Table Sensor Config.sensors
  hits : List Hit
  tallies : Table Tally Config.zones
  cracks : Table Crack Config.cracks
  waveSpeed : Nat
  margin : Nat
  sigAmp : Nat
  confirmRun : Nat
  lapseRun : Nat
  threshold : Nat
  joinDistance : Nat
  confirmDerate : Nat
  arrestDerate : Nat
  growthLimit : Nat
  sweep : Sweep
  deriving DecidableEq, Repr

/-! ### The part -/

/-- A unit the part has sent on a link (R196). -/
structure Sent where
  link : Link
  unit : List Byte
  deriving DecidableEq, Repr

/-- The whole part. -/
structure State where
  /-- commands waiting, first in, first out -/
  pending : List Instr
  /-- messages between blocks that have been sent and have not arrived, oldest first -/
  transit : List Instr
  /-- units sent on the drive links and scanner return lanes, oldest first -/
  sent : List Sent
  /-- the reset line is asserted (R181) -/
  resetHeld : Bool
  /-- the levels of the loop inputs: set when closed (R126) -/
  loopInputs : Table Bool Config.loops
  sp : Sp
  zdu : Zdu
  ach : Ach
  lsq : Lsq
  gsc : Gsc
  cwu : Cwu
  deriving DecidableEq, Repr

/-! ### Reset values -/

/-- SP after device reset (R175, R181, R183): every class masked, every mode ENTRY. -/
def Sp.reset : Sp :=
  { slot := .empty, answer := none, overrun := false, latches := 0, masks := BitVec.allOnes 16, edgeModes := 0,
    condValues := 0, lostLinks := 0, attnLine := false, window := none, amend := false, restartDone := none,
    gather := none, dataOut := [] }

/-- The ZDU after device reset (R18). -/
def Zdu.reset : Zdu :=
  { boundaries := [], zones := Table.fill _ {}, tripCount := 4, tripArmed := true, rezone := none,
    anyOver := false, anyFault := false }

/-- ACH after device reset (R39). -/
def Ach.reset : Ach :=
  { acts := Table.fill _ {}, reportTimeout := 20, freeTime := 30000, sweep := .none }

/-- LSQ after device reset (R55, R82). -/
def Lsq.reset : Lsq :=
  { seq := .idle, position := 0, passCount := 0, haltCause := .none, scale := 100, faultSet := 0,
    awaited := Table.fill _ none, reholdSet := 0, freedSet := 0, commanded := Table.fill _ 0, line := none,
    direction := .forward, swapPending := false, active := .a, bankA := {}, bankB := {}, dwellTimer := none,
    intervalAuto := true, intervalLen := 10, intervalNumber := 0, intervalPasses := 0, restRamp := 2000,
    derateRamp := 500, rezoneOpen := false }

/-- GSC after device reset (R104, R123). -/
def Gsc.reset : Gsc :=
  { gauges := Table.fill _ {}, chanMap := Table.fill _ none, links := Table.fill _ {}, linkTimeout := 500,
    zeroOp := none, shuntOp := none, lastZeroed := 0, lastSkipped := 0, lastShuntGauge := 0,
    lastShuntOutcome := .none, interval := 0, sweep := .none }

/-- CWU after device reset (R143, R166), the line-closed flags read from the loop inputs (R125, R126). -/
def Cwu.reset (inputs : Table Bool Config.loops) : Cwu :=
  { loops := ⟨inputs.rows.map fun c => { closed := c }, by simp [inputs.size]⟩, sensors := Table.fill _ {},
    hits := [], tallies := Table.fill _ {}, cracks := Table.fill _ {}, waveSpeed := 1024, margin := 20,
    sigAmp := 45, confirmRun := 3, lapseRun := 8, threshold := 5, joinDistance := 300, confirmDerate := 80,
    arrestDerate := 100, growthLimit := 0, sweep := .none }

/-- The part right after device reset: every record at its defaults, the reset line released, nothing waiting. The
levels of the loop inputs are the part's inputs and the spec gives them no value: open (DESIGN CHOICE, log 6). -/
def State.reset : State :=
  { pending := [], transit := [], sent := [], resetHeld := false, loopInputs := Table.fill _ false,
    sp := Sp.reset, zdu := Zdu.reset, ach := Ach.reset, lsq := Lsq.reset, gsc := Gsc.reset,
    cwu := Cwu.reset (Table.fill _ false) }

end Sys2Proof.Machine
end

