-- ==== Sys2Proof/Machine/Operands.lean ====
section
/-! DEFINITION. Machine/Operands.lean: bytes, checks, parameter fields, link units, enumeration codes and window
values (chapter 11). -/
namespace Sys2Proof.Machine

/-! ### Little-endian fields (00_scope.md 4.4) -/

/-- An unsigned two-byte field. -/
def u16 (lo hi : Byte) : Nat := lo.toNat + 256 * hi.toNat

/-- An unsigned four-byte field. -/
def u32 (b0 b1 b2 b3 : Byte) : Nat := u16 b0 b1 + 65536 * u16 b2 b3

/-- A two-byte field as its bits. -/
def bits16 (lo hi : Byte) : BitVec 16 := BitVec.ofNat 16 (u16 lo hi)

/-- One byte of a number. -/
def byteOf (n : Nat) : Byte := BitVec.ofNat 8 n

/-- Two bytes of a number. -/
def le16 (n : Nat) : List Byte := [byteOf n, byteOf (n / 256)]

/-- Four bytes of a number. -/
def le32 (n : Nat) : List Byte := le16 n ++ le16 (n / 65536)

/-- A signed number in two bytes, two's complement. -/
def le16Int (i : Int) : List Byte := le16 (BitVec.ofInt 16 i).toNat

/-- A flag in result data: 00H clear, 01H set (R195). -/
def flagByte (b : Bool) : Byte := if b then 1 else 0

/-- A one-byte field that may be absent: FFH (chapter 11). -/
def optByte : Option Nat → Byte
  | some n => byteOf n
  | none => 0xFF

/-- A number kept within `lo..hi`. -/
def clampInt (lo hi x : Int) : Int := max lo (min hi x)

/-! ### Request parameters (R167) -/

/-- The parameters of a frame whose outer form is right: the length byte is there, is 64 or less, and counts the
parameter bytes received (R167, check 1). -/
def frameParams : List Byte → Option (List Byte)
  | [] => none
  | len :: params => if len.toNat ≤ 64 ∧ params.length = len.toNat then some params else none

/-! ### Link units (R196) -/

/-- The check of a unit: the sum of its bytes, modulo 65536. -/
def unitSum (body : List Byte) : BitVec 16 := body.foldl (fun s b => s + b.zeroExtend 16) 0

/-- A unit: its bytes and their check. -/
def sealUnit (body : List Byte) : List Byte := body ++ le16 (unitSum body).toNat

/-- The bytes of a unit whose check holds, without the check. -/
def openUnit (unit : List Byte) : Option (List Byte) :=
  let body := unit.take (unit.length - 2)
  if 2 ≤ unit.length ∧ unit = sealUnit body then some body else none

/-- SET(tag, target, ramp ms). -/
def setUnit (tag : Tag) (target : Int) (ramp : Nat) : List Byte :=
  sealUnit ([0x01, tag] ++ le16Int target ++ le16 ramp)

/-- HOLD(tag). -/
def holdUnit (tag : Tag) : List Byte := sealUnit [0x02, tag]

/-- FREE(tag). -/
def freeUnit (tag : Tag) : List Byte := sealUnit [0x03, tag]

/-- SHUNT(channel). -/
def shuntUnit (channel : Nat) : List Byte := sealUnit [0x11, byteOf channel]

/-- A good REPORT. -/
structure CardReport where
  echo : Tag
  status : CardStatus
  force : Int
  stroke : Int
  deriving DecidableEq, Repr

/-- The card status a byte names (11.5). -/
def cardStatusOf (b : Byte) : Option CardStatus :=
  match b.toNat with
  | 0 => some .ramping
  | 1 => some .settled
  | 2 => some .holding
  | 3 => some .free
  | 4 => some .cardFault
  | _ => none

/-- The REPORT a unit carries; none for a unit that fails (R196). -/
def parseReport (unit : List Byte) : Option CardReport :=
  match openUnit unit with
  | some [ty, echo, status, f0, f1, s0, s1] =>
    if ty = 0x81 then
      (cardStatusOf status).map fun st =>
        { echo := echo, status := st, force := (bits16 f0 f1).toInt, stroke := (bits16 s0 s1).toInt }
    else none
  | _ => none

/-- One reading of a scan frame. -/
structure FrameReading where
  channel : Byte
  quality : Quality
  value : BitVec 16
  deriving DecidableEq, Repr

/-- The quality a byte names (11.5). -/
def qualityOf (b : Byte) : Option Quality :=
  match b.toNat with
  | 0 => some .good
  | 1 => some .overrange
  | 2 => some .open
  | 3 => some .shunted
  | _ => none

/-- The readings of a scan frame's bytes: channel, quality, value each. -/
def parseReadings : List Byte → Option (List FrameReading)
  | [] => some []
  | ch :: q :: v0 :: v1 :: rest =>
    match qualityOf q, parseReadings rest with
    | some ql, some rs => some ({ channel := ch, quality := ql, value := bits16 v0 v1 } :: rs)
    | _, _ => none
  | _ => none

/-- The readings of a scan frame; none for a unit that fails (R196). -/
def parseScanFrame (unit : List Byte) : Option (List FrameReading) :=
  match openUnit unit with
  | some (ty :: count :: rest) =>
    if ty = 0x91 ∧ 1 ≤ count.toNat ∧ count.toNat ≤ 128 ∧ rest.length = 4 * count.toNat then parseReadings rest
    else none
  | _ => none

/-- A hit as it arrives: sensor, time, amplitude. -/
structure RawHit where
  sensor : Nat
  time : BitVec 32
  amplitude : Nat
  deriving DecidableEq, Repr

/-- The hit a unit carries; none for a unit that fails (R196). -/
def parseHit (unit : List Byte) : Option RawHit :=
  match openUnit unit with
  | some [ty, sensor, t0, t1, t2, t3, amp] =>
    if ty = 0xA1 then
      some { sensor := sensor.toNat, time := BitVec.ofNat 32 (u32 t0 t1 t2 t3), amplitude := amp.toNat }
    else none
  | _ => none

/-! ### Enumeration codes (11.5) -/

/-- Answer codes. -/
def AnswerCode.code : AnswerCode → Byte
  | .done => 0
  | .started => 1
  | .refused => 2

/-- WAIT, returned by FETCH alone (R172). -/
def waitCode : Byte := 3

/-- EMPTY, returned by FETCH alone (R172). -/
def emptyCode : Byte := 4

/-- Reasons. -/
def Reason.code : Reason → Byte
  | .none => 0
  | .unknown => 1
  | .format => 2
  | .range => 3
  | .state => 4
  | .pending => 5
  | .rezoneOpen => 6
  | .noActuator => 7
  | .invalid => 8
  | .faultPresent => 9
  | .targetReached => 10
  | .link => 11
  | .station => 12
  | .occupied => 13
  | .keyInUse => 14
  | .loadOn => 15
  | .stillOpen => 16
  | .tableFull => 17
  | .confirmedHeld => 18
  | .swapPending => 19
  | .readOnly => 20
  | .vacant => 21
  | .bankActive => 22

/-- Sequencer states. -/
def SeqState.code : SeqState → Nat
  | .idle => 0
  | .arming => 1
  | .ready => 2
  | .running _ => 3
  | .haltingFinish _ => 4
  | .haltingRest => 4
  | .held _ => 5
  | .halted => 6
  | .disarming => 7

/-- Step phases, of the shared enumeration RAMP, DWELL, FINISH, REST. -/
def StepPhase.code : StepPhase → Nat
  | .ramp => 0
  | .dwell => 1

/-- The sub-phase, present in HALTING. -/
def SeqState.subPhase : SeqState → Option Nat
  | .haltingFinish _ => some 2
  | .haltingRest => some 3
  | _ => none

/-- The step phase, present in RUNNING and HALTING-FINISH. -/
def SeqState.stepPhase : SeqState → Option Nat
  | .running ph => some ph.code
  | .haltingFinish ph => some ph.code
  | _ => none

/-- The held origin, present in HELD. -/
def SeqState.heldOrigin : SeqState → Option Nat
  | .held .step => some 0
  | .held .rest => some 1
  | _ => none

/-- Halt causes. -/
def HaltCause.code : HaltCause → Nat
  | .none => 0
  | .hostOrderly => 1
  | .targetReached => 2
  | .strainTrip => 3
  | .crackGrowth => 4
  | .crackTableFull => 5
  | .hostImmediate => 6
  | .actuatorFault => 7
  | .armFailed => 8

/-- Bank states. -/
def BankState.code : BankState → Nat
  | .empty => 0
  | .editing => 1
  | .valid => 2
  | .invalid _ => 3

/-- The failing item, present in INVALID. -/
def BankState.failing? : BankState → Option Failing
  | .invalid f => some f
  | _ => none

/-- Banks. -/
def BankName.code : BankName → Nat
  | .a => 0
  | .b => 1

/-- Directions. -/
def Direction.code : Direction → Nat
  | .forward => 0
  | .reverse => 1

/-- Failing items. -/
def FailItem.code : FailItem → Nat
  | .envelope => 0
  | .times => 1
  | .travel => 2
  | .endCount => 3
  | .cell => 4
  | .bed => 5
  | .endLoad => 6

/-- Link states. -/
def LinkState.code : LinkState → Nat
  | .silent => 0
  | .live => 1
  | .lost => 2

/-- Actuator states. -/
def ActState.code : ActState → Nat
  | .off => 0
  | .standby => 1
  | .driven => 2
  | .holding => 3
  | .fault _ => 4

/-- Actuator fault causes. -/
def ActCause.code : ActCause → Nat
  | .link => 0
  | .card => 1
  | .following => 2
  | .stroke => 3
  | .slow => 4

/-- The fault cause, present in FAULT. -/
def ActState.cause? : ActState → Option ActCause
  | .fault c => some c
  | _ => none

/-- Card statuses; NONE is FFH. -/
def cardStatusCode : Option CardStatus → Nat
  | none => 0xFF
  | some .ramping => 0
  | some .settled => 1
  | some .holding => 2
  | some .free => 3
  | some .cardFault => 4

/-- Gauge states. -/
def GaugeState.code : GaugeState → Nat
  | .vacant => 0
  | .waiting => 1
  | .quiet => 2
  | .alert => 3
  | .over => 4
  | .fault _ => 5
  | .suspended => 6

/-- Gauge fault causes. -/
def GaugeCause.code : GaugeCause → Nat
  | .open => 0
  | .range => 1
  | .link => 2
  | .shunt => 3

/-- The fault cause, present in FAULT. -/
def GaugeState.cause? : GaugeState → Option GaugeCause
  | .fault c => some c
  | _ => none

/-- Reading qualities; NONE, for no reading, is FFH. -/
def qualityCode : Option Quality → Nat
  | none => 0xFF
  | some .good => 0
  | some .overrange => 1
  | some .open => 2
  | some .shunted => 3

/-- SHUNT outcomes. -/
def ShuntOutcome.code : ShuntOutcome → Nat
  | .none => 0
  | .pass => 1
  | .fail => 2
  | .missed => 3
  | .abandoned => 4

/-- Loop states. -/
def LoopState.code : LoopState → Nat
  | .unused => 0
  | .intact => 1
  | .opening => 2
  | .broken => 3

/-- Crack states. -/
def CrackState.code : CrackState → Nat
  | .vacant => 0
  | .suspect => 1
  | .confirmed => 2
  | .arrested => 3

/-- Crack origins. -/
def Origin.code : Origin → Nat
  | .ae => 0
  | .wire => 1
  | .inspection => 2

/-- The table a code names (11.5). -/
def tableOf (b : Byte) : Option WTable :=
  match b.toNat with
  | 0 => some .gauges
  | 1 => some .cracks
  | 2 => some .loops
  | 3 => some .sensors
  | 4 => some .zones
  | 5 => some .actuators
  | 6 => some .standbyBank
  | 7 => some .activeBank
  | 8 => some .settings
  | _ => none

/-- The scan order a code names (11.5). -/
def scanOrderOf (b : Byte) : Option ScanOrder :=
  match b.toNat with
  | 0 => some .record
  | 1 => some .field
  | _ => none

/-! ### Window values (R197) -/

/-- A window value: the number in four bytes, or 80000000H where the field is absent. -/
def windowValue : Option Int → Word
  | some i => BitVec.ofInt 32 i
  | none => 0x80000000

/-- A natural number as a field value. -/
def natField (n : Nat) : Option Int := some (n : Int)

/-- A flag as a field value. -/
def flagField (b : Bool) : Option Int := some (if b then 1 else 0)

/-- An optional natural number as a field value. -/
def optField (n : Option Nat) : Option Int := n.map fun (k : Nat) => (k : Int)

/-- The number a written value carries: signed for a field with a signed range, unsigned for any other. -/
def writtenNumber (signed : Bool) (v : Word) : Int := if signed then v.toInt else (v.toNat : Int)

/-- A written number within `lo..hi`. -/
def inRange (lo hi x : Int) : Bool := decide (lo ≤ x) && decide (x ≤ hi)

/-- The four-byte values of a WRITE DATA parameter list. -/
def wordsOf : List Byte → List Word
  | b0 :: b1 :: b2 :: b3 :: rest => BitVec.ofNat 32 (u32 b0 b1 b2 b3) :: wordsOf rest
  | _ => []

end Sys2Proof.Machine
end

