-- ==== Sys2Proof/Machine/Flags.lean ====
section
/-! DEFINITION. Machine/Flags.lean: the attention latches, condition edges, the lost-link set and the attention line
(R175 to R177). -/
namespace Sys2Proof.Machine

/-- The class number of an event class (R175). -/
def eventIndex : EventClass → Nat
  | .seqState => 0
  | .passDone => 1
  | .intervalClosed => 2
  | .opDone => 3
  | .actFault => 4
  | .loopBroken => 5
  | .crackOpened => 6
  | .crackState => 7
  | .crackTableFull => 8
  | .zoneDerate => 9
  | .bankEvent => 10
  | .portOverrun => 11

/-- The condition number j of class 12 + j (R175, 11.2). -/
def condIndex : CondClass → Nat
  | .linkLost => 0
  | .anyOver => 1
  | .anyFault => 2
  | .anyAlert => 3

/-- Bit `i` of a word of `w` bits, alone. -/
def bitAt (w i : Nat) : BitVec w := (1 : BitVec w) <<< i

/-- The word with bit `i` set or cleared. -/
def putBit {w : Nat} (x : BitVec w) (i : Nat) (b : Bool) : BitVec w :=
  if b then x ||| bitAt w i else x &&& ~~~bitAt w i

/-- The line is asserted while some latch is set with its mask clear (R177). -/
def lineAsserted (latches masks : BitVec 16) : Bool := latches &&& ~~~masks != 0

/-- SP re-evaluates the line (R177). -/
def evalLine (sp : Sp) : Sp := { sp with attnLine := lineAsserted sp.latches sp.masks }

/-- The latch of class `i` is set, whatever its mask (R175). -/
def setLatch (i : Nat) (sp : Sp) : Sp := evalLine { sp with latches := putBit sp.latches i true }

/-- Every latch is cleared (R178, R180). -/
def clearLatches (sp : Sp) : Sp := evalLine { sp with latches := 0 }

/-- An edge of a condition class: an edge to the value already held changes nothing; an entry edge latches in either
mode, an exit edge in BOTH mode alone (R175). -/
def applyEdge (c : CondClass) (e : Edge) (sp : Sp) : Sp :=
  let j := condIndex c
  let v := e == .entry
  if sp.condValues.getLsbD j = v then sp
  else
    let sp1 := { sp with condValues := putBit sp.condValues j v }
    if v || sp.edgeModes.getLsbD j then setLatch (12 + j) sp1 else sp1

/-- The member of the lost-link set a link is (R176). -/
def linkIndex : Link → Nat
  | .drive a => a.val
  | .scanner k => 8 + k.val

/-- A link enters or leaves LOST: the set follows, and LINK_LOST has an edge when the set becomes non-empty or empty
(R176). -/
def applyLinkReport (l : Link) (lost : Bool) (sp : Sp) : Sp :=
  let set := putBit sp.lostLinks (linkIndex l) lost
  let sp1 := { sp with lostLinks := set }
  if sp.lostLinks = 0 ∧ set ≠ 0 then applyEdge .linkLost .entry sp1
  else if sp.lostLinks ≠ 0 ∧ set = 0 then applyEdge .linkLost .exit sp1
  else sp1

end Sys2Proof.Machine
end

