-- ==== Sys2Proof/Machine/Ops.lean ====
section
/-! DEFINITION. Machine/Ops.lean: the operations the meanings share: messages between blocks, units sent, the answer
slot and the form of a host request. -/
namespace Sys2Proof.Machine

/-- What a command answers. -/
abbrev Result := Host.Outcome State Fault Refusal

/-! ### Messages -/

/-- A message leaves a block; it arrives when its command is taken (log 2). -/
def send (m : Instr) (s : State) : State := { s with transit := s.transit ++ [m] }

/-- Messages leave a block, in order. -/
def sendAll (ms : List Instr) (s : State) : State := { s with transit := s.transit ++ ms }

/-- A message arrives: the oldest equal one is no longer in transit (log 2). -/
def arrive (m : Instr) (s : State) : State := { s with transit := s.transit.erase m }

/-- A block raises an attention class of kind event (R175). -/
def raise (c : EventClass) (s : State) : State := send (.attentionEventReport c) s

/-- A block's condition goes from `was` to `now`: the edge is reported (R12, R103). -/
def reportEdge (c : CondClass) (was now : Bool) (s : State) : State :=
  if was = now then s
  else send (.conditionEdgeReport c (if now then .entry else .exit)) s

/-- A unit goes out on a link (R25, R100, R196). -/
def transmit (l : Link) (unit : List Byte) (s : State) : State := { s with sent := s.sent ++ [⟨l, unit⟩] }

/-- While the reset line is held the part takes no arrival and every block stands at its defaults (R181, R196). -/
def unlessHeld (f : State → State) (s : State) : State := if s.resetHeld then s else f s

/-- The meaning of a message between blocks: it arrives, and then has its effect. -/
def onArrival (m : Instr) (f : State → State) (s : State) : Result := .next (unlessHeld (fun s => f (arrive m s)) s)

/-- The messages in transit that `p` picks arrive, oldest first, each with its effect: they were sent before what the
block takes now, and that may not overtake them (R85, R146, R174). -/
def takeSent (p : Instr → Bool) (take : Instr → State → State) (s : State) : State :=
  (s.transit.filter p).foldl (fun t m => take m (arrive m t)) s

/-! ### The blocks -/

/-- A change of SP. -/
def onSp (f : Sp → Sp) (s : State) : State := { s with sp := f s.sp }
/-- A change of the ZDU. -/
def onZdu (f : Zdu → Zdu) (s : State) : State := { s with zdu := f s.zdu }
/-- A change of ACH. -/
def onAch (f : Ach → Ach) (s : State) : State := { s with ach := f s.ach }
/-- A change of LSQ. -/
def onLsq (f : Lsq → Lsq) (s : State) : State := { s with lsq := f s.lsq }
/-- A change of GSC. -/
def onGsc (f : Gsc → Gsc) (s : State) : State := { s with gsc := f s.gsc }
/-- A change of CWU. -/
def onCwu (f : Cwu → Cwu) (s : State) : State := { s with cwu := f s.cwu }

/-- Zones in use (R1). -/
def zoneCount (s : State) : Nat := s.zdu.boundaries.length + 1

/-- The zone of a station: the number of boundaries at or below it, under the list installed now (R1). -/
def decodeStation (x : Nat) (s : State) : Nat := s.zdu.boundaries.countP fun b => decide (b ≤ x)

/-! ### The answer slot (R169 to R172) -/

/-- What taking a request gives: the state after it and the owner's answer, or no answer yet (RESTART, R180). -/
abbrev Taken := State × Option Reply

/-- Answered DONE. -/
def done (s : State) (data : List Byte := []) : Taken := (s, some { code := .done, data := data })

/-- Answered STARTED: a long operation was taken (R168). -/
def started (s : State) : Taken := (s, some { code := .started })

/-- Refused: nothing changes at the owner (R172). -/
def refuse (s : State) (r : Reason) (data : List Byte := []) : Taken :=
  (s, some { code := .refused, reason := r, data := data })

/-- The answer to request `code` sets out for the slot (R169). -/
def postAnswer (code : Byte) (r : Reply) (s : State) : State :=
  send (.answerToSlot none) (onSp (fun sp => { sp with answer := some { request := code, reply := r } }) s)

/-- The answer sets out where there is one. -/
def postTaken (code : Byte) (t : Taken) : State :=
  match t.2 with
  | some r => postAnswer code r t.1
  | none => t.1

/-- SP puts a request to several owners: each is asked, and each answers by an event of its own (R174, R186, R189). -/
def askOwners (g : Gather) (s : State) : State :=
  sendAll (g.waiting.map fun b => .answerToSlot (some b)) (onSp (fun sp => { sp with gather := some g }) s)

/-- No answer yet: the owners asked have theirs to give. -/
def asking (g : Gather) (s : State) : Taken := (askOwners g s, none)

/-- A request is taken into the slot; an answer held there is discarded (R169). -/
def occupySlot (code : Byte) (s : State) : State := onSp (fun sp => { sp with slot := .working code }) s

/-- A request that finds the slot WORKING is discarded: the overrun flag is set and PORT_OVERRUN raised (R170). -/
def discardRequest (s : State) : State :=
  onSp (fun sp => setLatch (eventIndex .portOverrun) { sp with overrun := true }) s

/-- AMEND ends (R191). -/
def endAmend (s : State) : State := onSp (fun sp => { sp with amend := false }) s

/-- The slot is WORKING (R169). -/
def slotWorking (s : State) : Bool :=
  match s.sp.slot with
  | .working _ => true
  | _ => false

/-- A request frame of a known code arrives at SP (R167 to R170): discarded while the slot is WORKING; otherwise taken
into the slot; a wrong outer form is refused by SP with FORMAT and ends AMEND (R191, log 11); a right one goes to its
owner, `take`, and ends AMEND unless the request is READ DATA, WRITE DATA or AMEND ON (R191). -/
def portFrame (code : Byte) (keepsAmend : Bool) (take : List Byte → State → Taken) (tail : List Byte) (s : State) :
    State :=
  if slotWorking s then discardRequest s
  else
    match frameParams tail with
    | none => postTaken code (refuse (endAmend (occupySlot code s)) .format)
    | some params =>
      postTaken code (take params (if keepsAmend then occupySlot code s else endAmend (occupySlot code s)))

/-- The meaning of a host request. -/
def hostRequest (code : Byte) (take : List Byte → State → Taken) (tail : List Byte) (s : State) : Result :=
  .next (unlessHeld (portFrame code false take tail) s)

/-- The meaning of a host request that keeps AMEND in force (R191). -/
def hostRequestKeepingAmend (code : Byte) (take : List Byte → State → Taken) (tail : List Byte) (s : State) : Result :=
  .next (unlessHeld (portFrame code true take tail) s)

/-- A request with no parameters: any other length is refused with FORMAT (R195). -/
def noParams (f : State → Taken) (params : List Byte) (s : State) : Taken :=
  match params with
  | [] => f s
  | _ => refuse s .format

/-- A request with one byte of parameters: any other length is refused with FORMAT (R195). -/
def oneByte (f : Nat → State → Taken) (params : List Byte) (s : State) : Taken :=
  match params with
  | [b] => f b.toNat s
  | _ => refuse s .format

/-- A request with one two-byte parameter: any other length is refused with FORMAT (R195). -/
def oneWord (f : Nat → State → Taken) (params : List Byte) (s : State) : Taken :=
  match params with
  | [lo, hi] => f (u16 lo hi) s
  | _ => refuse s .format

/-- A number naming one of `n` records: any other is refused with RANGE. -/
def indexed {n : Nat} (f : Fin n → State → Taken) (i : Nat) (s : State) : Taken :=
  match Table.index? n i with
  | some k => f k s
  | none => refuse s .range

/-- Insertion into a list ordered by `key`, after the entries of an equal key. -/
def insertBy {α : Type} (key : α → Nat) (x : α) : List α → List α
  | [] => [x]
  | y :: ys => if key x < key y then x :: y :: ys else y :: insertBy key x ys

/-- A list in ascending order of `key`. -/
def sortBy {α : Type} (key : α → Nat) (xs : List α) : List α := xs.foldl (fun acc x => insertBy key x acc) []

/-- The record numbers `0..n − 1`, in order. -/
def indices (n : Nat) : List (Fin n) := (List.range n).filterMap fun i => Table.index? n i

end Sys2Proof.Machine
end

