-- ==== Sys2Proof/Machine/Zdu.lean ====
section
/-! DEFINITION. Machine/Zdu.lean: the Zone Derate Unit: claims, derates, the strain trip, the conditions and REZONE
(chapter 1). -/
namespace Sys2Proof.Machine

/-! ### Zone entries -/

/-- Entry `z`; an index past the table reads as the defaults of R3. -/
def zoneEntry (z : Nat) (s : State) : ZoneEntry := s.zdu.zones.getD z {}

/-- Entry `z` replaced. -/
def setZone (z : Nat) (e : ZoneEntry) (s : State) : State := onZdu (fun u => { u with zones := u.zones.setD z e }) s

/-- Over-derate while the over count is at least 1, otherwise 100 (R3, R6). -/
def ZoneEntry.gaugeDerate (e : ZoneEntry) : Nat := if 1 ≤ e.overCount then e.overDerate else 100

/-- The least of the crack, gauge and manual derates (R8). -/
def ZoneEntry.leastDerate (e : ZoneEntry) : Nat := min e.crackDerate (min e.gaugeDerate e.manual)

/-- The low station of zone `z`: 0 for zone 0, otherwise boundary z − 1 (R3). -/
def zoneLow (z : Nat) (s : State) : Nat := if z = 0 then 0 else s.zdu.boundaries.getD (z - 1) 0

/-- A REZONE is open at the ZDU. -/
def rezoneIsOpen (s : State) : Bool := s.zdu.rezone.isSome

/-- The zones in use, 0 upward. -/
def zonesInUse (s : State) : List Nat := List.range (zoneCount s)

/-- The total over count of the zones in use (R6, R11). -/
def totalOver (s : State) : Nat := ((zonesInUse s).map fun z => (zoneEntry z s).overCount).sum

/-- The total fault count of the zones in use (R12). -/
def totalFault (s : State) : Nat := ((zonesInUse s).map fun z => (zoneEntry z s).faultCount).sum

/-- The effective derate of a zone, as LSQ reads it (R8). -/
def effectiveDerate (z : Nat) (s : State) : Nat := (zoneEntry z s).effective

/-- The load flag of a zone, as GSC reads it: clear at or above the zone count (R10). -/
def loadFlagOf (z : Nat) (s : State) : Bool := decide (z < zoneCount s) && (zoneEntry z s).loadFlag

/-! ### Effective derates (R9) -/

/-- The stored effective derate of `z` becomes the least of its three. -/
def storeEffective (z : Nat) (s : State) : State :=
  setZone z { zoneEntry z s with effective := (zoneEntry z s).leastDerate } s

/-- The effective derate of `z` is not the least of its three. -/
def derateChanged (s : State) (z : Nat) : Bool := (zoneEntry z s).leastDerate != (zoneEntry z s).effective

/-- The least of the three derates of `z` has fallen below its effective derate. -/
def derateFell (s : State) (z : Nat) : Bool := decide ((zoneEntry z s).leastDerate < (zoneEntry z s).effective)

/-- The effective derates of `zs` are updated together: one ZONE_DERATE where any changed, and a DERATE_FALL for each
that fell (R5, R9, R16). While a REZONE is open they stay frozen and nothing is sent (R9). -/
def updateEffective (zs : List Nat) (s : State) : State :=
  if rezoneIsOpen s then s
  else
    let s1 := zs.foldl (fun t z => storeEffective z t) s
    let s2 := if zs.any (derateChanged s) then raise .zoneDerate s1 else s1
    sendAll ((zs.filter (derateFell s)).map .derateFall) s2

/-! ### The strain trip and the conditions -/

/-- The comparison of the total over count with the trip count (R11); none while a REZONE is open (R16). -/
def compareTrip (s : State) : State :=
  if rezoneIsOpen s || s.zdu.tripCount == 0 then s
  else if s.zdu.tripCount ≤ totalOver s then
    if s.zdu.tripArmed then send .strainTrip (onZdu (fun u => { u with tripArmed := false }) s) else s
  else onZdu (fun u => { u with tripArmed := true }) s

/-- ANY_OVER and ANY_FAULT are evaluated and their edges reported; held while a REZONE is open (R12). -/
def evalConditions (s : State) : State :=
  if rezoneIsOpen s then s
  else
    let o := decide (1 ≤ totalOver s)
    let f := decide (1 ≤ totalFault s)
    onZdu (fun u => { u with anyOver := o, anyFault := f })
      (reportEdge .anyFault s.zdu.anyFault f (reportEdge .anyOver s.zdu.anyOver o s))

/-! ### Claims (R6, R7, R10) -/

/-- A claim naming a zone at or above the zone count is dropped (R6, R7). -/
def zoneClaim (z : Nat) (f : State → State) (s : State) : State := if z < zoneCount s then f s else s

/-- What follows a taken over claim: gauge and effective derate, trip, conditions (R6). -/
def afterOverClaim (z : Nat) (s : State) : State := evalConditions (compareTrip (updateEffective [z] s))

/-- OVER_ENTER(z) at the ZDU; a claim past 512 is dropped (R6). -/
def takeOverEnter (z : Nat) : State → State :=
  zoneClaim z fun s =>
    let e := zoneEntry z s
    if e.overCount < 512 then afterOverClaim z (setZone z { e with overCount := e.overCount + 1 } s) else s

/-- OVER_LEAVE(z) at the ZDU; a claim below 0 is dropped (R6). -/
def takeOverLeave (z : Nat) : State → State :=
  zoneClaim z fun s =>
    let e := zoneEntry z s
    if 0 < e.overCount then afterOverClaim z (setZone z { e with overCount := e.overCount - 1 } s) else s

/-- FAULT_ENTER(z) at the ZDU (R6). -/
def takeFaultEnter (z : Nat) : State → State :=
  zoneClaim z fun s =>
    let e := zoneEntry z s
    if e.faultCount < 512 then evalConditions (setZone z { e with faultCount := e.faultCount + 1 } s) else s

/-- FAULT_LEAVE(z) at the ZDU (R6). -/
def takeFaultLeave (z : Nat) : State → State :=
  zoneClaim z fun s =>
    let e := zoneEntry z s
    if 0 < e.faultCount then evalConditions (setZone z { e with faultCount := e.faultCount - 1 } s) else s

/-- CRACK_DERATE(z, value, count) at the ZDU (R7). -/
def takeCrackDerate (z value count : Nat) : State → State :=
  zoneClaim z fun s =>
    updateEffective [z] (setZone z { zoneEntry z s with crackDerate := value, crackCount := count } s)

/-- LOAD_MASK(set) at the ZDU: every load flag is replaced; members at or above the zone count are ignored (R10). -/
def takeLoadMask (set : BitVec 32) (s : State) : State :=
  (indices Config.zones).foldl
    (fun t z => setZone z.val { zoneEntry z.val t with loadFlag := decide (z.val < zoneCount s) && set.getLsbD z.val } t) s

/-- A message is a claim of GSC or CWU. -/
def isClaim : Instr → Bool
  | .overEnter _ => true
  | .overLeave _ => true
  | .faultEnter _ => true
  | .faultLeave _ => true
  | .crackDerate _ _ _ => true
  | _ => false

/-- The ZDU takes a claim (R6, R7). -/
def takeClaim : Instr → State → State
  | .overEnter z, s => takeOverEnter z s
  | .overLeave z, s => takeOverLeave z s
  | .faultEnter z, s => takeFaultEnter z s
  | .faultLeave z, s => takeFaultLeave z s
  | .crackDerate z value count, s => takeCrackDerate z value count s
  | _, s => s

/-- Every claim already sent reaches the ZDU, in the order sent: the claims of an event go to the ZDU as part of that
event, so none is overtaken by what the ZDU takes afterwards (R85, R146, log 30). -/
def takeClaims (s : State) : State := takeSent isClaim takeClaim s

/-! ### Host writes and SET ZONE DERATE (R4, R5, R11) -/

/-- A taken manual derate write (R4). -/
def writeManual (z v : Nat) (s : State) : State :=
  updateEffective [z] (setZone z { zoneEntry z s with manual := v } s)

/-- A taken over-derate write: the gauge derate follows at once (R4). -/
def writeOverDerate (z v : Nat) (s : State) : State :=
  updateEffective [z] (setZone z { zoneEntry z s with overDerate := v } s)

/-- A taken strain trip count write: stored, the flag armed, and compared (R11). -/
def writeTripCount (v : Nat) (s : State) : State :=
  compareTrip (onZdu (fun u => { u with tripCount := v, tripArmed := true }) s)

/-- SET ZONE DERATE for every zone in use, as one claim (R5). -/
def writeManualAll (v : Nat) (s : State) : State :=
  updateEffective (zonesInUse s) ((zonesInUse s).foldl (fun t z => setZone z { zoneEntry z t with manual := v } t) s)

/-- SET ZONE DERATE (R5). -/
def takeSetZoneDerate (params : List Byte) (s : State) : Taken :=
  match params with
  | [zb, db] =>
    let z := zb.toNat
    let d := db.toNat
    if 100 < d ∨ (z ≠ 0xFF ∧ zoneCount s ≤ z) then refuse s .range
    else if z = 0xFF then done (writeManualAll d s)
    else done (writeManual z d s)
  | _ => refuse s .format

/-! ### REZONE (R13 to R17) -/

/-- The boundary stations of a REZONE's parameters, two bytes each. -/
def stationsOf : List Byte → List Nat
  | lo :: hi :: rest => u16 lo hi :: stationsOf rest
  | _ => []

/-- Strictly ascending. -/
def ascending : List Nat → Bool
  | x :: y :: rest => decide (x < y) && ascending (y :: rest)
  | _ => true

/-- A boundary list a REZONE may carry (R13, check 2). -/
def boundariesOk (bs : List Nat) : Bool := bs.all (fun b => decide (1 ≤ b ∧ b ≤ Config.maxStation)) && ascending bs

/-- The frozen value of zone `z`: its old effective derate where it was in use, otherwise the least of all (R14). -/
def frozenDerate (z : Nat) (s : State) : Nat :=
  if z < zoneCount s then effectiveDerate z s
  else ((zonesInUse s).map fun y => effectiveDerate y s).foldl min (effectiveDerate 0 s)

/-- Entry `z` at the start of a REZONE with `n` zones: settings kept, tallies and derived fields reset (R14). -/
def rezonedEntry (n z : Nat) (s : State) : ZoneEntry :=
  { manual := (zoneEntry z s).manual, overDerate := (zoneEntry z s).overDerate,
    effective := if z < n then frozenDerate z s else 100 }

/-- The records of the three owners are to be swept: their cursors stand at 0 (R86, R165, log 9). -/
def orderSweeps (s : State) : State :=
  onAch (fun h => { h with sweep := .ordered }) (onCwu (fun w => { w with sweep := .ordered })
    (onGsc (fun g => { g with sweep := .ordered }) s))

/-- A REZONE is taken, as one event (R14, R17). -/
def openRezone (bs : List Nat) (s : State) : State :=
  let n := bs.length + 1
  let zones := (indices Config.zones).foldl (fun (t : Table ZoneEntry Config.zones) z => t.set z (rezonedEntry n z.val s))
    s.zdu.zones
  sendAll [.rezoneStateNotice true, .rezoneSweep .gsc, .rezoneSweep .cwu, .rezoneSweep .ach]
    (orderSweeps (onZdu (fun u => { u with boundaries := bs, zones := zones, rezone := some {} }) s))

/-- The sequencer is at rest: IDLE, READY or HALTED (R13, R98). -/
def seqAtRest (s : State) : Bool := s.lsq.seq == .idle || s.lsq.seq == .ready || s.lsq.seq == .halted

/-- REZONE (R13); the claims of earlier events are in the tallies before it sets them to 0 (R85, log 30). -/
def takeRezone (params : List Byte) (s : State) : Taken :=
  match params with
  | [] => refuse s .format
  | n :: rest =>
    if n.toNat = 0 then refuse s .range
    else if rest.length ≠ 2 * (n.toNat - 1) then refuse s .format
    else if Config.zones < n.toNat ∨ boundariesOk (stationsOf rest) = false then refuse s .range
    else if seqAtRest s = false then refuse s .state
    else if rezoneIsOpen s then refuse s .pending
    else started (openRezone (stationsOf rest) (takeClaims s))

/-- SWEPT at the ZDU: one more record (R15); none is counted with no REZONE open. -/
def takeSwept (s : State) : State :=
  onZdu (fun u => { u with rezone := u.rezone.map fun r => { r with sweepCount := r.sweepCount + 1 } }) s

/-- The REZONE completes, as one event (R16). -/
def completeRezone (s : State) : State :=
  let s1 := onZdu (fun u => { u with rezone := none }) s
  let s2 := evalConditions (compareTrip (updateEffective (zonesInUse s1) s1))
  send (.rezoneStateNotice false) (raise .opDone s2)

/-- The SWEEP_DONE marks with `o` added. -/
def Rezone.mark (r : Rezone) : Owner → Rezone
  | .gsc => { r with gscDone := true }
  | .cwu => { r with cwuDone := true }
  | .ach => { r with achDone := true }

/-- All three owners have swept (R16). -/
def Rezone.allDone (r : Rezone) : Bool := r.gscDone && r.cwuDone && r.achDone

/-- SWEEP_DONE at the ZDU: the third completes the REZONE (R16). -/
def takeSweepDone (o : Owner) (s : State) : State :=
  match s.zdu.rezone with
  | none => s
  | some r =>
    let s1 := onZdu (fun u => { u with rezone := some (r.mark o) }) s
    if (r.mark o).allDone then completeRezone s1 else s1

/-! ### Meanings -/

/-- OVER_ENTER (R6). -/
def execOverEnter (z : Nat) (s : State) : Result := onArrival (.overEnter z) (takeOverEnter z) s
/-- OVER_LEAVE (R6). -/
def execOverLeave (z : Nat) (s : State) : Result := onArrival (.overLeave z) (takeOverLeave z) s
/-- FAULT_ENTER (R6). -/
def execFaultEnter (z : Nat) (s : State) : Result := onArrival (.faultEnter z) (takeFaultEnter z) s
/-- FAULT_LEAVE (R6). -/
def execFaultLeave (z : Nat) (s : State) : Result := onArrival (.faultLeave z) (takeFaultLeave z) s
/-- CRACK_DERATE (R7). -/
def execCrackDerate (z value count : Nat) (s : State) : Result :=
  onArrival (.crackDerate z value count) (takeCrackDerate z value count) s
/-- LOAD_MASK (R10). -/
def execLoadMask (set : BitVec 32) (s : State) : Result := onArrival (.loadMask set) (takeLoadMask set) s
/-- SWEPT (R15). -/
def execSwept (o : Owner) (s : State) : Result := onArrival (.swept o) takeSwept s
/-- SWEEP_DONE (R16). -/
def execSweepDone (o : Owner) (s : State) : Result := onArrival (.sweepDone o) (takeSweepDone o) s
/-- REZONE (R13, R14). -/
def execRezone (tail : List Byte) (s : State) : Result := hostRequest 0x30 takeRezone tail s
/-- SET ZONE DERATE (R5). -/
def execSetZoneDerate (tail : List Byte) (s : State) : Result := hostRequest 0x31 takeSetZoneDerate tail s

end Sys2Proof.Machine
end

