-- ==== Sys2Proof/Machine/Ach.lean ====
section
/-! DEFINITION. Machine/Ach.lean: the Actuator Channels: drive commands, reports, timers, faults (chapter 2), and the
part of the Load Sequencer that an answered SET command touches (R57). -/
namespace Sys2Proof.Machine

/-- Actuator `a`'s record. -/
def act (a : Fin Config.actuators) (s : State) : Actuator := s.ach.acts.get a

/-- Actuator `a`'s record replaced. -/
def setAct (a : Fin Config.actuators) (r : Actuator) (s : State) : State :=
  onAch (fun h => { h with acts := h.acts.set a r }) s

/-! ### Units to a card (R25) -/

/-- The tag of the next message to a card: last tag + 1, wrapping (R25). -/
def nextTag (r : Actuator) : Tag := r.lastTag + 1

/-- The target a SET carries: the commanded one, limited to the actuator's range (R25). -/
def limitedTarget (r : Actuator) (target : Int) : Int := clampInt r.tensLimit r.compLimit target

/-- The record after a SET is sent: DRIVEN, new tag, target and ramp, mark and run cleared, settle timer started
(R25, R26). -/
def afterSet (target : Int) (ramp : Nat) (r : Actuator) : Actuator :=
  { r with
    state := .driven, lastTag := nextTag r, lastTarget := limitedTarget r target, lastRamp := ramp
    settledMark := false, followRun := 0, settleTimer := some (ramp + r.settleAllow) }

/-- SET goes to the card of `a`. -/
def sendSet (a : Fin Config.actuators) (target : Int) (ramp : Nat) (s : State) : State :=
  transmit (.drive a) (setUnit (nextTag (act a s)) (limitedTarget (act a s) target) ramp)
    (setAct a (afterSet target ramp (act a s)) s)

/-- HOLD goes to the card of `a` (R25): target and ramp stand. -/
def sendHold (a : Fin Config.actuators) (s : State) : State :=
  transmit (.drive a) (holdUnit (nextTag (act a s))) (setAct a { act a s with lastTag := nextTag (act a s) } s)

/-- FREE goes to the card of `a` (R25). -/
def sendFree (a : Fin Config.actuators) (s : State) : State :=
  transmit (.drive a) (freeUnit (nextTag (act a s))) (setAct a { act a s with lastTag := nextTag (act a s) } s)

/-! ### Fault entry (R36) -/

/-- The record at fault entry: FAULT with its cause, settle timer cancelled, mark cleared, run kept (R36, item 1); on a
link not LIVE the automatic hold stays owed (R37). -/
def faulted (c : ActCause) (r : Actuator) : Actuator :=
  { r with state := .fault c, settleTimer := none, settledMark := false, holdOwed := r.link != .live }

/-- Fault entry from DRIVEN, HOLDING or STANDBY, as one event (R36). -/
def enterFault (a : Fin Config.actuators) (c : ActCause) (s : State) : State :=
  let s1 := setAct a (faulted c (act a s)) s
  let s2 := if (act a s).link = .live then sendHold a s1 else s1
  raise .actFault (send (.actFault a c) s2)

/-! ### Drive commands (R26 to R28) -/

/-- What a SET drive command does at ACH (R26). -/
def takeSetAtAch (a : Fin Config.actuators) (target : Int) (ramp : Nat) (s : State) : State :=
  let r := act a s
  match r.state with
  | .standby => if r.link = .live then sendSet a target ramp s else enterFault a .link s
  | .driven => if r.freeWait then s else sendSet a target ramp s
  | .holding => if r.freeWait then s else sendSet a target ramp s
  | .fault c => send (.actFault a c) s
  | .off => s

/-- A SET command to this record sends a SET, and so is answered with its tag (R26). -/
def setIsSent (r : Actuator) : Bool :=
  match r.state with
  | .standby => r.link == .live
  | .driven => !r.freeWait
  | .holding => !r.freeWait
  | .fault _ => false
  | .off => false

/-- LSQ takes ACH's answer to a SET command: with a tag, the commanded target and the awaited tag are recorded;
without one, no tag is awaited (R57). -/
def recordAnswer (a : Fin Config.actuators) (target : Int) (tag : Option Tag) (s : State) : State :=
  onLsq (fun q => { q with
    awaited := q.awaited.set a tag,
    commanded := if tag.isSome then q.commanded.set a target else q.commanded }) s

/-- A SET drive command: taken at ACH, and answered to LSQ as part of the same event (R26, R57). -/
def takeSetCommand (a : Fin Config.actuators) (target : Int) (ramp : Nat) (s : State) : State :=
  recordAnswer a target (if setIsSent (act a s) then some (nextTag (act a s)) else none) (takeSetAtAch a target ramp s)

/-- The record when a HOLD command is obeyed: HOLDING, settle timer cancelled, mark and run cleared (R27). -/
def held (r : Actuator) : Actuator :=
  { r with state := .holding, settleTimer := none, settledMark := false, followRun := 0 }

/-- A HOLD drive command (R27). -/
def takeHoldCommand (a : Fin Config.actuators) (s : State) : State :=
  if (act a s).state = .driven ∧ (act a s).freeWait = false then sendHold a (setAct a (held (act a s)) s) else s

/-- The record when a free wait starts: settle timer cancelled, free timer started (R28). -/
def waiting (freeTime : Nat) (r : Actuator) : Actuator :=
  { r with settleTimer := none, freeWait := true, freeTimer := some freeTime }

/-- A FREE is sent and a free wait starts (R28). -/
def startFreeWait (a : Fin Config.actuators) (s : State) : State :=
  sendFree a (setAct a (waiting s.ach.freeTime (act a s)) s)

/-- A FREE drive command (R28). -/
def takeFreeCommand (a : Fin Config.actuators) (s : State) : State :=
  let r := act a s
  if r.freeWait then s
  else
    match r.state with
    | .driven => if r.link = .live then startFreeWait a s else send (.freed a) (setAct a { r with state := .standby } s)
    | .holding => if r.link = .live then startFreeWait a s else send (.freed a) (setAct a { r with state := .standby } s)
    | .fault _ => if r.link = .live then startFreeWait a s else send (.freed a) s
    | .standby => send (.freed a) s
    | .off => s

/-! ### The free wait (R35) -/

/-- The record with its free wait ended: wait cleared, free timer cancelled (R35). -/
def waitEnded (r : Actuator) : Actuator := { r with freeWait := false, freeTimer := none }

/-- A free wait ends with the card unloaded or out of reach: STANDBY, or still FAULT (R35, first two rows). -/
def endWaitFree (a : Fin Config.actuators) (s : State) : State :=
  let r := waitEnded (act a s)
  send (.freed a)
    (setAct a (match r.state with
      | .fault _ => r
      | _ => { r with state := .standby }) s)

/-- The hold is owed: the report that next makes the link LIVE is judged under R37. -/
def oweHold (a : Fin Config.actuators) (s : State) : State := setAct a { act a s with holdOwed := true } s

/-- A free wait ends in FAULT: a new fault raises attention and sends no ACT_FAULT notice (R35, last two rows). -/
def endWaitFault (a : Fin Config.actuators) (c : ActCause) (s : State) : State :=
  let r := waitEnded (act a s)
  match r.state with
  | .fault _ => send (.freed a) (setAct a r s)
  | _ => raise .actFault (send (.freed a) (setAct a { r with state := .fault c } s))

/-! ### Reports (R29 to R33, R37) -/

/-- The record with a good report stored: last report, report timer restarted, link LIVE (R29); a hold owed is settled
by this report alone (R37). -/
def stored (timeout : Nat) (rep : CardReport) (r : Actuator) : Actuator :=
  { r with
    repForce := rep.force, repStroke := rep.stroke, repStatus := some rep.status, repEcho := rep.echo
    reportTimer := some timeout, link := .live, holdOwed := false }

/-- A good report is stored; a link leaving LOST is reported to SP (R29). -/
def storeReport (a : Fin Config.actuators) (rep : CardReport) (s : State) : State :=
  let s1 := setAct a (stored s.ach.reportTimeout rep (act a s)) s
  if (act a s).link = .lost then send (.linkReport (.drive a) false) s1 else s1

/-- The stroke lies outside the window (R31, item 3). -/
def strokeOutside (r : Actuator) (stroke : Int) : Bool := decide (stroke < r.strokeMin) || decide (r.strokeMax < stroke)

/-- The fault the first checks declare on a report in DRIVEN or HOLDING (R31). -/
def firstChecks (r : Actuator) (rep : CardReport) : Option ActCause :=
  if rep.status = .cardFault then some .card
  else if rep.status = .free ∧ rep.echo = r.lastTag then some .card
  else if strokeOutside r rep.stroke then some .stroke
  else none

/-- The following run after a report judged by the following check (R33). -/
def nextFollowRun (r : Actuator) (force : Int) : Nat :=
  if r.followLimit < (force - r.lastTarget).natAbs then r.followRun + 1 else 0

/-- The following check: FAULT(FOLLOWING) when the run reaches 3 (R33). -/
def followingCheck (a : Fin Config.actuators) (rep : CardReport) (s : State) : State :=
  let run := nextFollowRun (act a s) rep.force
  let s1 := setAct a { act a s with followRun := run } s
  if 3 ≤ run then enterFault a .following s1 else s1

/-- The settle: mark set, timer cancelled, SETTLED to LSQ (R32). -/
def settle (a : Fin Config.actuators) (s : State) : State :=
  send (.settled a (act a s).lastTag) (setAct a { act a s with settledMark := true, settleTimer := none } s)

/-- The judgement of a stored report in DRIVEN after the first checks (R32, R33). -/
def judgeDriven (a : Fin Config.actuators) (rep : CardReport) (s : State) : State :=
  let r := act a s
  if r.settledMark then followingCheck a rep s
  else if rep.status = .settled ∧ rep.echo = r.lastTag then settle a s
  else s

/-- A report during a free wait (R35). -/
def judgeFreeWait (a : Fin Config.actuators) (rep : CardReport) (s : State) : State :=
  if rep.status = .cardFault then endWaitFault a .card s
  else if rep.status = .free ∧ rep.echo = (act a s).lastTag then endWaitFree a s
  else s

/-- The card is still moving or has not stopped by itself: a hold owed is sent (R37). -/
def needsLateHold (st : CardStatus) : Bool := st == .ramping || st == .settled || st == .cardFault

/-- A good report makes the link LIVE and finds a hold owed: it is the one R37 judges. -/
def settlesHold (r : Actuator) : Bool := r.link != .live && r.holdOwed

/-- A stored report of actuator `a` is judged, as the record stands (R31 to R33, R35, R37). `owed` says that it is the one
R37 judges; any other in FAULT is judged by no check (R36). -/
def judgeReport (a : Fin Config.actuators) (rep : CardReport) (owed : Bool) (s : State) : State :=
  let r := act a s
  match r.state with
  | .fault _ =>
    if r.freeWait then judgeFreeWait a rep s
    else if owed && needsLateHold rep.status then sendHold a s
    else s
  | .driven =>
    if r.freeWait then judgeFreeWait a rep s
    else match firstChecks r rep with
      | some c => enterFault a c s
      | none => judgeDriven a rep s
  | .holding =>
    if r.freeWait then judgeFreeWait a rep s
    else match firstChecks r rep with
      | some c => enterFault a c s
      | none => s
  | .standby => s
  | .off => s

/-- A unit from the card of `a`: a unit that fails is discarded; a good REPORT is stored and judged (R29, R196). -/
def takeReport (a : Fin Config.actuators) (unit : List Byte) (s : State) : State :=
  match parseReport unit with
  | none => s
  | some rep => judgeReport a rep (settlesHold (act a s)) (storeReport a rep s)

/-! ### Timer expiries (R30, R34, R35) -/

/-- The link of `a` becomes LOST and is reported (R30). -/
def loseLink (a : Fin Config.actuators) (s : State) : State :=
  send (.linkReport (.drive a) true) (setAct a { act a s with link := .lost, reportTimer := none } s)

/-- The report timer of `a` expires (R30); a stopped timer has no expiry (log 5). In FAULT a link loss changes the link
state only (R36), but a free wait it ends leaves the report that follows to R37 (log 13). -/
def takeReportTimerExpiry (a : Fin Config.actuators) (s : State) : State :=
  if (act a s).reportTimer = none then s
  else
    let s1 := loseLink a s
    match (act a s).state with
    | .driven => if (act a s).freeWait then endWaitFree a s1 else enterFault a .link s1
    | .holding => if (act a s).freeWait then endWaitFree a s1 else enterFault a .link s1
    | .fault _ => if (act a s).freeWait then oweHold a (endWaitFree a s1) else s1
    | .standby => s1
    | .off => s1

/-- The settle timer of `a` expires: FAULT(SLOW) (R34). -/
def takeSettleTimerExpiry (a : Fin Config.actuators) (s : State) : State :=
  if (act a s).settleTimer = none then s
  else
    let s1 := setAct a { act a s with settleTimer := none } s
    if (act a s).state = .driven then enterFault a .slow s1 else s1

/-- The free timer of `a` expires: the wait ends with FAULT(SLOW) (R35). -/
def takeFreeTimerExpiry (a : Fin Config.actuators) (s : State) : State :=
  if (act a s).freeTimer = none then s
  else if (act a s).freeWait then endWaitFault a .slow s
  else setAct a { act a s with freeTimer := none } s

/-! ### Enabling, disabling, clearing (R22 to R24) -/

/-- Another actuator not in OFF stands at station `x` (R21, R22). -/
def stationTaken (a : Fin Config.actuators) (x : Nat) (s : State) : Bool :=
  (indices Config.actuators).any fun b => b != a && (act b s).state != .off && (act b s).station == x

/-- The sequencer is IDLE, as LSQ answers. -/
def seqIdle (s : State) : Bool := s.lsq.seq == .idle

/-- A record returned to STANDBY (R22, R24). -/
def standing (r : Actuator) : Actuator :=
  { r with state := .standby, followRun := 0, settledMark := false, freeWait := false }

/-- ENABLE ACTUATOR (R22). -/
def takeEnableActuator (a : Fin Config.actuators) (s : State) : Taken :=
  let r := act a s
  if r.state ≠ .off ∨ seqIdle s = false then refuse s .state
  else if r.link ≠ .live then refuse s .link
  else if r.repStatus ≠ some .free then refuse s .state
  else if stationTaken a r.station s then refuse s .station
  else done (setAct a (standing r) s)

/-- DISABLE ACTUATOR (R23). -/
def takeDisableActuator (a : Fin Config.actuators) (s : State) : Taken :=
  if (act a s).state = .standby ∧ seqIdle s = true then done (setAct a { act a s with state := .off } s)
  else refuse s .state

/-- CLEAR FAULT (R24). -/
def takeClearFault (a : Fin Config.actuators) (s : State) : Taken :=
  let r := act a s
  if r.state.cause? = none ∨ seqIdle s = false then refuse s .state
  else if r.link ≠ .live then refuse s .link
  else if r.repStatus ≠ some .free then refuse s .state
  else done (setAct a (standing r) s)

/-! ### Host writes (R21, R29, R35) -/

/-- A taken station write: the ZDU decodes the zone (R2, R21). -/
def storeActStation (a : Fin Config.actuators) (x : Nat) (s : State) : State :=
  setAct a { act a s with station := x, zone := decodeStation x s } s

/-- A write to a field that OFF and STANDBY alone take (R21): STATE first, then the checks (log 12). -/
def restWrite (r : Actuator) (ok : Bool) (s t : State) : State × Option Reason :=
  if r.state ≠ .off ∧ r.state ≠ .standby then (s, some .state)
  else if ok then (t, none)
  else (s, some .range)

/-- A host write to an actuator field, the number `x` written (R21, R197). -/
def writeActuator (a : Fin Config.actuators) (field : Nat) (x : Int) (s : State) : State × Option Reason :=
  let r := act a s
  match field with
  | 0 =>
    if r.state ≠ .off ∧ r.state ≠ .standby then (s, some .state)
    else if inRange 0 65000 x = false then (s, some .range)
    else if r.state = .standby ∧ stationTaken a x.toNat s = true then (s, some .station)
    else (storeActStation a x.toNat s, none)
  | 3 => restWrite r (inRange 0 32000 x && decide (r.restLoad ≤ x)) s (setAct a { r with compLimit := x } s)
  | 4 => restWrite r (inRange (-32000) 0 x && decide (x ≤ r.restLoad)) s (setAct a { r with tensLimit := x } s)
  | 5 => restWrite r (inRange r.tensLimit r.compLimit x) s (setAct a { r with restLoad := x } s)
  | 6 => if inRange 1 10000 x then (setAct a { r with followLimit := x.toNat } s, none) else (s, some .range)
  | 7 => if inRange 0 5000 x then (setAct a { r with settleAllow := x.toNat } s, none) else (s, some .range)
  | 8 => restWrite r (inRange (-32000) 32000 x && decide (x < r.strokeMax)) s (setAct a { r with strokeMin := x } s)
  | 9 => restWrite r (inRange (-32000) 32000 x && decide (r.strokeMin < x)) s (setAct a { r with strokeMax := x } s)
  | _ => (s, some .readOnly)

/-! ### The REZONE sweep (R38) -/

/-- ACH sweeps actuator `a`: its station is decoded under the list installed now (R38). -/
def sweepActuator (a : Fin Config.actuators) (s : State) : State :=
  setAct a { act a s with zone := decodeStation (act a s).station s } s

/-! ### Meanings -/

/-- SET drive command (R26). -/
def execSetCommand (a : Fin Config.actuators) (target : Int) (ramp : Nat) (s : State) : Result :=
  onArrival (.setCommand a target ramp) (takeSetCommand a target ramp) s
/-- HOLD drive command (R27). -/
def execHoldCommand (a : Fin Config.actuators) (s : State) : Result := onArrival (.holdCommand a) (takeHoldCommand a) s
/-- FREE drive command (R28). -/
def execFreeCommand (a : Fin Config.actuators) (s : State) : Result := onArrival (.freeCommand a) (takeFreeCommand a) s
/-- REPORT (R29 to R33, R35, R37). -/
def execReport (a : Fin Config.actuators) (unit : List Byte) (s : State) : Result :=
  .next (unlessHeld (takeReport a unit) s)
/-- Report timer expiry (R30). -/
def execReportTimerExpiry (a : Fin Config.actuators) (s : State) : Result :=
  .next (unlessHeld (takeReportTimerExpiry a) s)
/-- Settle timer expiry (R34). -/
def execSettleTimerExpiry (a : Fin Config.actuators) (s : State) : Result :=
  .next (unlessHeld (takeSettleTimerExpiry a) s)
/-- Free timer expiry (R35). -/
def execFreeTimerExpiry (a : Fin Config.actuators) (s : State) : Result :=
  .next (unlessHeld (takeFreeTimerExpiry a) s)
/-- ENABLE ACTUATOR (R22). -/
def execEnableActuator (tail : List Byte) (s : State) : Result :=
  hostRequest 0x40 (oneByte (indexed takeEnableActuator)) tail s
/-- DISABLE ACTUATOR (R23). -/
def execDisableActuator (tail : List Byte) (s : State) : Result :=
  hostRequest 0x41 (oneByte (indexed takeDisableActuator)) tail s
/-- CLEAR FAULT (R24). -/
def execClearFault (tail : List Byte) (s : State) : Result :=
  hostRequest 0x42 (oneByte (indexed takeClearFault)) tail s

end Sys2Proof.Machine
end

