-- ==== Sys2Proof/Machine/Banks.lean ====
section
/-! DEFINITION. Machine/Banks.lean: the pattern banks, the actuator line, the mapping of positions to pattern forces,
validation, COMMIT BANK, SWAP BANK and CANCEL SWAP (chapter 3). -/
namespace Sys2Proof.Machine

/-! ### Banks and roles (R41) -/

/-- The bank of a name. -/
def Lsq.bank (q : Lsq) : BankName → Bank
  | .a => q.bankA
  | .b => q.bankB

/-- The bank of a name replaced. -/
def Lsq.setBank (q : Lsq) (n : BankName) (b : Bank) : Lsq :=
  match n with
  | .a => { q with bankA := b }
  | .b => { q with bankB := b }

/-- The other bank. -/
def BankName.other : BankName → BankName
  | .a => .b
  | .b => .a

/-- The bank in the ACTIVE role. -/
def activeBank (s : State) : Bank := s.lsq.bank s.lsq.active

/-- The bank in the STANDBY role. -/
def standbyBank (s : State) : Bank := s.lsq.bank s.lsq.active.other

/-- The standby bank's state replaced. -/
def setStandbyState (st : BankState) (s : State) : State :=
  onLsq (fun q => q.setBank q.active.other { q.bank q.active.other with state := st }) s

/-! ### The actuator line (R44) -/

/-- The line formed from ACH: the actuators not in OFF, by ascending station (R44). -/
def formLine (s : State) : List LinePlace :=
  sortBy LinePlace.station
    (((indices Config.actuators).filter fun a => (act a s).state != .off).map fun a => ⟨a, (act a s).station⟩)

/-- The line a use takes: the frozen one, or the released one formed afresh (R44). -/
def theLine (s : State) : List LinePlace := s.lsq.line.getD (formLine s)

/-- The actuators of the line in use, in line order. -/
def lineActs (s : State) : List (Fin Config.actuators) := (theLine s).map LinePlace.act

/-! ### The cut and the mapping (R45, R46) -/

/-- T, the travel actuators of a line of `n` (R45). -/
def travelCount (b : Bank) (n : Nat) : Nat := n - b.lead - b.trail

/-- The cut exists: T is at least 1 (R45). -/
def cutExists (b : Bank) (n : Nat) : Bool := decide (b.lead + b.trail < n)

/-- The travel actuators, in line order (R45). -/
def travelPlaces (b : Bank) (line : List LinePlace) : List LinePlace :=
  (line.drop b.lead).take (travelCount b line.length)

/-- End load `i` of a bank. -/
def Bank.endLoad (b : Bank) (i : Nat) : Int := b.ends.getD i 0

/-- Cell `k` of a bank's store. -/
def Bank.cell (b : Bank) (k : Nat) : Int := b.cells.getD k 0

/-- The end load number a line place carries, where it is held (R45). -/
def endLoadOf (b : Bank) (n i : Nat) : Option Nat :=
  if i < b.lead then some i
  else if n - b.trail ≤ i then some (b.lead + (i - (n - b.trail)))
  else none

/-- The travel slot of line place `i`, counted from the entry end (R45). -/
def slotOf (b : Bank) (n : Nat) (d : Direction) (i : Nat) : Nat :=
  match d with
  | .forward => i - b.lead
  | .reverse => n - b.trail - 1 - i

/-- The envelope cell over line place `i` at position `p`, where one is (R46). -/
def cellOver (b : Bank) (n : Nat) (d : Direction) (p i : Nat) : Option Nat :=
  if (endLoadOf b n i).isSome then none
  else if slotOf b n d i ≤ p ∧ p - slotOf b n d i < b.len then some (p - slotOf b n d i)
  else none

/-- The pattern force of line place `i` at position `p` (R46). -/
def patternForce (b : Bank) (n : Nat) (d : Direction) (p i : Nat) : Int :=
  match endLoadOf b n i with
  | some e => b.endLoad e
  | none =>
    match cellOver b n d p i with
    | some k => b.cell k
    | none => b.bed

/-- The last position of a pass, T + L − 2 (R46). -/
def lastPosition (b : Bank) (n : Nat) : Nat := travelCount b n + b.len - 2

/-! ### Validation (R47) -/

/-- A force lies within the limits of actuator `a`, as ACH answers. -/
def forceWithin (s : State) (f : Int) (a : Fin Config.actuators) : Bool := inRange (act a s).tensLimit (act a s).compLimit f

/-- The first cell outside the limits of a travel actuator (R47, item 5). -/
def cellFailing (b : Bank) (line : List LinePlace) (s : State) : Option Failing :=
  (List.range b.len).findSome? fun k =>
    (travelPlaces b line).findSome? fun l =>
      if forceWithin s (b.cell k) l.act then none else some { item := .cell, index := some k, act := some l.act.val }

/-- The first travel actuator whose limits the bed load breaks (R47, item 6). -/
def bedFailing (b : Bank) (line : List LinePlace) (s : State) : Option Failing :=
  (travelPlaces b line).findSome? fun l =>
    if forceWithin s b.bed l.act then none else some { item := .bed, act := some l.act.val }

/-- The held actuators of the line with the end load each carries, by end load number (R45). -/
def heldPlaces (b : Bank) (line : List LinePlace) : List LinePlace :=
  line.take b.lead ++ line.drop (line.length - b.trail)

/-- The first end load outside the limits of its held actuator (R47, item 7). -/
def endFailing (b : Bank) (line : List LinePlace) (s : State) : Option Failing :=
  (heldPlaces b line).zipIdx.findSome? fun (l, i) =>
    if forceWithin s (b.endLoad i) l.act then none else some { item := .endLoad, index := some i, act := some l.act.val }

/-- The ramp and dwell times are in range (R47, item 2). -/
def timesOk (b : Bank) : Bool :=
  decide (10 ≤ b.ramp ∧ b.ramp ≤ 10000) && decide (10 ≤ b.dwell ∧ b.dwell ≤ 60000)

/-- Validation of a bank against a line: the first failing item, or none (R47). -/
def validate (b : Bank) (line : List LinePlace) (s : State) : Option Failing :=
  if b.len < 1 then some { item := .envelope }
  else if timesOk b = false then some { item := .times }
  else if cutExists b line.length = false then some { item := .travel }
  else if b.endCount ≠ b.lead + b.trail then some { item := .endCount }
  else
    match cellFailing b line s with
    | some f => some f
    | none =>
      match bedFailing b line s with
      | some f => some f
      | none => endFailing b line s

/-- The result data of a validation (11.3). -/
def validationData : Option Failing → List Byte
  | none => [0, 0xFF, 0xFF, 0xFF]
  | some f => [1, byteOf f.item.code, optByte f.index, optByte f.act]

/-! ### Swaps (R50 to R54) -/

/-- The roles exchange and the running direction is loaded from the new active bank; no swap is pending; BANK_EVENT is
raised (R50, R52, R53). -/
def exchangeRoles (s : State) : State :=
  raise .bankEvent (onLsq (fun q => { q with
    active := q.active.other, direction := (q.bank q.active.other).dir, swapPending := false }) s)

/-- A swap in IDLE or READY, or at the entry to IDLE: the position is also set to 0 (R50, R53). -/
def swapAtRest (s : State) : State := onLsq (fun q => { q with position := 0 }) (exchangeRoles s)

/-- COMMIT BANK (R48). -/
def takeCommitBank (s : State) : Taken :=
  if s.lsq.swapPending then refuse s .swapPending
  else
    match validate (standbyBank s) (theLine s) s with
    | none => done (setStandbyState .valid s) (validationData none)
    | some f => done (setStandbyState (.invalid f) s) (validationData (some f))

/-- SWAP BANK in RUNNING, HALTING, HELD and HALTED: it becomes pending (R51). -/
def takeSwapInFlight (s : State) : Taken :=
  if s.lsq.swapPending then refuse s .pending
  else if (standbyBank s).state = .valid then done (onLsq (fun q => { q with swapPending := true }) s)
  else refuse s .state

/-- SWAP BANK (R50, R51). -/
def takeSwapBank (s : State) : Taken :=
  match s.lsq.seq with
  | .idle => if (standbyBank s).state = .valid then done (swapAtRest s) else refuse s .state
  | .ready =>
    if (standbyBank s).state = .valid then
      match validate (standbyBank s) (theLine s) s with
      | none => done (swapAtRest s)
      | some f => refuse s .invalid (validationData (some f))
    else refuse s .state
  | .running _ => takeSwapInFlight s
  | .haltingFinish _ => takeSwapInFlight s
  | .haltingRest => takeSwapInFlight s
  | .held _ => takeSwapInFlight s
  | .halted => takeSwapInFlight s
  | .arming => refuse s .state
  | .disarming => refuse s .state

/-- CANCEL SWAP (R54). -/
def takeCancelSwap (s : State) : Taken :=
  if s.lsq.swapPending then done (onLsq (fun q => { q with swapPending := false }) s) else refuse s .state

/-- A pending swap is settled at a pass boundary in RUNNING: applied or rejected (R52). -/
def settleSwap (s : State) : State :=
  match validate (standbyBank s) (theLine s) s with
  | none => exchangeRoles s
  | some f =>
    raise .bankEvent (onLsq (fun q => { q with swapPending := false }) (setStandbyState (.invalid f) s))

/-! ### Host writes (R42) -/

/-- The write range of a bank field, or none for a read-only one (R40, R42). -/
def bankFieldRange (field : Nat) : Option (Int × Int) :=
  if field = 1 then some (1, 16)
  else if 2 ≤ field ∧ field ≤ 18 then some (-32000, 32000)
  else if field = 19 ∨ field = 20 then some (0, 7)
  else if field = 21 then some (0, 14)
  else if 22 ≤ field ∧ field ≤ 35 then some (-32000, 32000)
  else if field = 36 then some (10, 10000)
  else if field = 37 then some (10, 60000)
  else if field = 38 ∨ field = 39 then some (0, 1)
  else if field = 40 then some (0, 4294967295)
  else none

/-- The bank with a field's value stored (11.6). -/
def storeBankField (field : Nat) (x : Int) (b : Bank) : Bank :=
  if field = 1 then { b with len := x.toNat }
  else if 2 ≤ field ∧ field ≤ 17 then { b with cells := b.cells.setD (field - 2) x }
  else if field = 18 then { b with bed := x }
  else if field = 19 then { b with lead := x.toNat }
  else if field = 20 then { b with trail := x.toNat }
  else if field = 21 then { b with endCount := x.toNat }
  else if 22 ≤ field ∧ field ≤ 35 then { b with ends := b.ends.setD (field - 22) x }
  else if field = 36 then { b with ramp := x.toNat }
  else if field = 37 then { b with dwell := x.toNat }
  else if field = 38 then { b with dir := if x = 0 then .forward else .reverse }
  else if field = 39 then { b with shuttle := decide (x ≠ 0) }
  else { b with target := x.toNat }

/-- A host write through STANDBY BANK, the number `x` written: stored, and the bank is EDITING (R42). -/
def writeStandbyBank (field : Nat) (x : Int) (s : State) : State × Option Reason :=
  match bankFieldRange field with
  | none => (s, some .readOnly)
  | some (lo, hi) =>
    if s.lsq.swapPending then (s, some .swapPending)
    else if inRange lo hi x = false then (s, some .range)
    else
      (onLsq (fun q => q.setBank q.active.other
        { storeBankField field x (q.bank q.active.other) with state := .editing }) s, none)

/-! ### Meanings -/

/-- COMMIT BANK (R48). -/
def execCommitBank (tail : List Byte) (s : State) : Result := hostRequest 0x50 (noParams takeCommitBank) tail s
/-- SWAP BANK (R50, R51). -/
def execSwapBank (tail : List Byte) (s : State) : Result := hostRequest 0x51 (noParams takeSwapBank) tail s
/-- CANCEL SWAP (R54). -/
def execCancelSwap (tail : List Byte) (s : State) : Result := hostRequest 0x52 (noParams takeCancelSwap) tail s

end Sys2Proof.Machine
end

