-- ==== Sys2Proof/Machine/Lsq.lean ====
section
/-! DEFINITION. Machine/Lsq.lean: the Load Sequencer: arming, steps, pass boundaries, scale and falls, halts, disarming
and the interval clock (chapter 4). -/
namespace Sys2Proof.Machine

/-! ### Drive commands and awaited tags (R57) -/

/-- Actuator `a` is in a set of actuators. -/
def inSet (x : BitVec 8) (a : Fin Config.actuators) : Bool := x.getLsbD a.val

/-- Actuator `a` is a member of the fault set. -/
def isFaulted (s : State) (a : Fin Config.actuators) : Bool := inSet s.lsq.faultSet a

/-- A SET drive command leaves LSQ; the tag awaited before is replaced, so none is held until the answer (R57, log 8). -/
def commandSet (a : Fin Config.actuators) (target : Int) (ramp : Nat) (s : State) : State :=
  send (.setCommand a target ramp) (onLsq (fun q => { q with awaited := q.awaited.set a none }) s)

/-- SET drive commands leave LSQ for each actuator and target. -/
def commandSets (ramp : Nat) (ts : List (Fin Config.actuators × Int)) (s : State) : State :=
  ts.foldl (fun t x => commandSet x.1 x.2 ramp t) s

/-- A message is a SET drive command. -/
def isSetCommand : Instr → Bool
  | .setCommand _ _ _ => true
  | _ => false

/-- No settle is waited for: no tag is awaited and no SET command is unanswered (R57, log 8). -/
def nothingAwaited (s : State) : Bool := s.lsq.awaited.rows.all Option.isNone && !s.transit.any isSetCommand

/-- A message is a SET drive command for `a`. -/
def isSetCommandFor (a : Fin Config.actuators) : Instr → Bool
  | .setCommand b _ _ => b == a
  | _ => false

/-- A SET command for `a` is unanswered: its tag, newer than any awaited, is still to come (R57, R69, log 8). -/
def setUnanswered (a : Fin Config.actuators) (s : State) : Bool := s.transit.any (isSetCommandFor a)

/-- The target last commanded for `a`: of the newest SET command still unanswered, else the recorded one (R56, log 8). -/
def lastCommanded (a : Fin Config.actuators) (s : State) : Int :=
  s.transit.foldl (fun x m =>
    match m with
    | .setCommand b t _ => if b = a then t else x
    | _ => x) (s.lsq.commanded.get a)

/-- Every awaited tag is emptied. -/
def emptyAwaited (s : State) : State := onLsq (fun q => { q with awaited := q.awaited.map fun _ => none }) s

/-- The sequencer's state changes. -/
def setSeq (st : SeqState) (s : State) : State := onLsq (fun q => { q with seq := st }) s

/-- A change of state that raises SEQ_STATE (R77). -/
def enterSeq (st : SeqState) (s : State) : State := raise .seqState (setSeq st s)

/-- The halt cause is set. -/
def setCause (c : HaltCause) (s : State) : State := onLsq (fun q => { q with haltCause := c }) s

/-! ### Targets (R58) -/

/-- A pattern force under scale and derate, truncated toward zero (R58). -/
def scaledForce (force : Int) (scale derate : Nat) : Int := (force * scale * derate).tdiv 10000

/-- The target of line place `i`, at the position as it stands (R58). -/
def placeTarget (s : State) (l : LinePlace) (i : Nat) : Int :=
  scaledForce (patternForce (activeBank s) (theLine s).length s.lsq.direction s.lsq.position i) s.lsq.scale
    (effectiveDerate (act l.act s).zone s)

/-- The line actuators not in the fault set, each with its target at the position (R58, R62). -/
def stepTargets (s : State) : List (Fin Config.actuators × Int) :=
  ((theLine s).zipIdx.filter fun x => !isFaulted s x.1.act).map fun x => (x.1.act, placeTarget s x.1 x.2)

/-- The line actuators not in the fault set, each with its rest load (R59, R72). -/
def restTargets (s : State) : List (Fin Config.actuators × Int) :=
  ((lineActs s).filter fun a => !isFaulted s a).map fun a => (a, (act a s).restLoad)

/-- A step start (R62). -/
def startStep (s : State) : State :=
  setSeq (.running .ramp) (commandSets (activeBank s).ramp (stepTargets s) s)

/-- The zones that hold a line actuator under an envelope cell at the position (R46, R63). -/
def envelopeMask (s : State) : BitVec 32 :=
  (theLine s).zipIdx.foldl (fun m x =>
    if (cellOver (activeBank s) (theLine s).length s.lsq.direction s.lsq.position x.2).isSome then
      putBit m (act x.1.act s).zone true
    else m) 0

/-- The ramp ends: the load mask is published, the dwell timer started and DWELL entered (R63). -/
def endRamp (st : SeqState) (s : State) : State :=
  setSeq st (onLsq (fun q => { q with dwellTimer := some (activeBank s).dwell }) (send (.loadMask (envelopeMask s)) s))

/-! ### Rest ramp, interval close, pass boundary (R65, R66, R72, R79) -/

/-- The rest ramp starts, as one event; with every line actuator faulted HALTED follows at once (R72). -/
def startRestRamp (s : State) : State :=
  let s1 := send (.loadMask 0) (setSeq .haltingRest s)
  let s2 := onLsq (fun q => { q with reholdSet := 0 }) s1
  let s3 := raise .seqState (commandSets s.lsq.restRamp (restTargets s) s2)
  if restTargets s = [] then enterSeq .halted s3 else s3

/-- The interval closes, as one LSQ event (R79). -/
def closeTheInterval (s : State) : State :=
  let n := s.lsq.intervalNumber + 1
  sendAll [.gscIntervalClose n, .cwuIntervalClose n]
    (raise .intervalClosed (onLsq (fun q => { q with intervalNumber := n, intervalPasses := 0 }) s))

/-- The target test (R66). -/
def targetReached (s : State) : Bool :=
  (decide ((activeBank s).target ≠ 0) && decide ((activeBank s).target ≤ s.lsq.passCount)) ||
    s.lsq.passCount == Config.maxPasses

/-- Item 1: the pass is counted; PASS_DONE (R65). -/
def countPass (s : State) : State :=
  raise .passDone (onLsq (fun q => { q with passCount := min Config.maxPasses (q.passCount + 1) }) s)

/-- Item 2: the interval passes; in AUTO the interval closes at or past its length (R65, R79). -/
def countIntervalPass (s : State) : State :=
  let s1 := onLsq (fun q => { q with intervalPasses := min 65535 (q.intervalPasses + 1) }) s
  if s1.lsq.intervalAuto && decide (s1.lsq.intervalLen ≤ s1.lsq.intervalPasses) then closeTheInterval s1 else s1

/-- The opposite direction. -/
def Direction.turned : Direction → Direction
  | .forward => .reverse
  | .reverse => .forward

/-- Item 4: with shuttle on and no swap applied, the running direction is reversed (R65). -/
def turnDirection (s : State) : State :=
  if (activeBank s).shuttle then onLsq (fun q => { q with direction := q.direction.turned }) s else s

/-- Items 3 and 4: in RUNNING a pending swap is settled; the direction turns unless it was applied (R52, R65). -/
def settleAndTurn (running : Bool) (s : State) : State :=
  if running && s.lsq.swapPending then
    match validate (standbyBank s) (theLine s) s with
    | none => settleSwap s
    | some _ => turnDirection (settleSwap s)
  else turnDirection s

/-- Pass boundary processing, its items in order (R65). -/
def passBoundary (running : Bool) (s : State) : State :=
  let s1 := settleAndTurn running (countIntervalPass (countPass s))
  let s2 := onLsq (fun q => { q with position := 0 }) s1
  if targetReached s2 then startRestRamp (setCause .targetReached s2)
  else if running then startStep s2
  else startRestRamp s2

/-- The step is complete: the position advances, or the pass boundary is processed (R64). -/
def completeStep (running : Bool) (s : State) : State :=
  if s.lsq.position < lastPosition (activeBank s) (theLine s).length then
    let s1 := onLsq (fun q => { q with position := q.position + 1 }) s
    if running then startStep s1 else startRestRamp s1
  else passBoundary running s

/-- The dwell timer expires (R64); a stopped timer has no expiry (log 5). -/
def takeDwellExpiry (s : State) : State :=
  if s.lsq.dwellTimer = none then s
  else
    let s1 := onLsq (fun q => { q with dwellTimer := none }) s
    match s.lsq.seq with
    | .running .dwell => completeStep true s1
    | .haltingFinish .dwell => completeStep false s1
    | _ => s1

/-! ### Falls (R67 to R70) -/

/-- The candidates whose recomputed target drops in magnitude, with that target (R68). -/
def fallTargets (cand : Fin Config.actuators → Bool) (s : State) : List (Fin Config.actuators × Int) :=
  (stepTargets s).filter fun x => cand x.1 && decide (x.2.natAbs < (lastCommanded x.1 s).natAbs)

/-- The actuators of a list of commands, added to a set. -/
def addAll (ts : List (Fin Config.actuators × Int)) (x : BitVec 8) : BitVec 8 :=
  ts.foldl (fun y t => putBit y t.1.val true) x

/-- A fall is obeyed by state (R68, R69, R70). -/
def obeyFall (cand : Fin Config.actuators → Bool) (s : State) : State :=
  let ts := fallTargets cand s
  match s.lsq.seq with
  | .running _ => commandSets s.lsq.derateRamp ts s
  | .haltingFinish _ => commandSets s.lsq.derateRamp ts s
  | .held .step => onLsq (fun q => { q with reholdSet := addAll ts q.reholdSet }) (commandSets s.lsq.derateRamp ts s)
  | _ => s

/-- DERATE_FALL(z): the candidates are the line actuators whose zone, read from ACH, is `z` (R68). -/
def takeDerateFall (z : Nat) (s : State) : State := obeyFall (fun a => (act a s).zone == z) s

/-- A new scale: a fall is obeyed, an equal or higher one sends nothing (R67). -/
def changeScale (v : Nat) (s : State) : State :=
  let s1 := onLsq (fun q => { q with scale := v }) s
  if v < s.lsq.scale then obeyFall (fun _ => true) s1 else s1

/-- The new scale is answered (R67). -/
def answerScale (s : State) : Taken := done s [byteOf s.lsq.scale]

/-- SET SCALE (R67). -/
def takeSetScale (v : Nat) (s : State) : Taken := if 100 < v then refuse s .range else answerScale (changeScale v s)

/-- TRIM UP (R67). -/
def takeTrimUp (s : State) : Taken := answerScale (changeScale (if s.lsq.scale < 100 then s.lsq.scale + 1 else s.lsq.scale) s)

/-- TRIM DOWN (R67). -/
def takeTrimDown (s : State) : Taken := answerScale (changeScale (s.lsq.scale - 1) s)

/-! ### Arming, starting, resuming (R59, R61, R75) -/

/-- What ARM does when taken, as one event, before its SET commands (R59). -/
def armed (line : List LinePlace) (q : Lsq) : Lsq :=
  { q with
    seq := .arming, line := some line, direction := (q.bank q.active).dir, position := 0, haltCause := .none
    faultSet := 0, awaited := q.awaited.map (fun _ => none), reholdSet := 0, freedSet := 0 }

/-- ARM is taken (R59). -/
def beginArming (line : List LinePlace) (s : State) : State :=
  let s1 := onLsq (armed line) s
  raise .seqState (commandSets s.lsq.restRamp (restTargets s1) s1)

/-- ARM (R59). -/
def takeArm (s : State) : Taken :=
  let line := formLine s
  if s.lsq.seq ≠ .idle then refuse s .state
  else if s.lsq.rezoneOpen then refuse s .rezoneOpen
  else if line = [] then refuse s .noActuator
  else if line.any (fun l => (act l.act s).state.cause?.isSome) then refuse s .faultPresent
  else
    match validate (activeBank s) line s with
    | some f => refuse s .invalid (validationData (some f))
    | none => done (beginArming line s)

/-- The step at the position starts from rest or hold (R61, R75). -/
def beginRunning (s : State) : State :=
  raise .seqState (startStep (onLsq (fun q => { q with haltCause := .none, reholdSet := 0 }) s))

/-- The checks START and RESUME share (R61, R75). -/
def startChecked (s : State) : Taken :=
  if s.lsq.rezoneOpen then refuse s .rezoneOpen
  else if s.lsq.faultSet ≠ 0 then refuse s .faultPresent
  else if targetReached s then refuse s .targetReached
  else done (beginRunning s)

/-- START (R61). -/
def takeStart (s : State) : Taken := if s.lsq.seq = .ready then startChecked s else refuse s .state

/-- RESUME (R75). -/
def takeResume (s : State) : Taken :=
  match s.lsq.seq with
  | .held _ => startChecked s
  | .halted => startChecked s
  | _ => refuse s .state

/-! ### Disarming (R78) -/

/-- DISARMING is entered, as one event (R78). -/
def enterDisarming (s : State) : State :=
  let s1 := onLsq (fun q => { q with reholdSet := 0, freedSet := 0 }) (emptyAwaited s)
  let s2 := send (.loadMask 0) (setSeq .disarming s1)
  raise .seqState (sendAll ((lineActs s).map .freeCommand) s2)

/-- DISARM (R78). -/
def takeDisarm (s : State) : Taken :=
  if s.lsq.seq = .ready ∨ s.lsq.seq = .halted then done (enterDisarming s) else refuse s .state

/-- The sequencer enters IDLE, as one event: line released, sets emptied, a pending swap taken (R53, R78). -/
def enterIdle (s : State) : State :=
  let s1 := onLsq (fun q => { q with line := none, faultSet := 0, freedSet := 0 }) (emptyAwaited (setSeq .idle s))
  raise .seqState (if s.lsq.swapPending then swapAtRest s1 else s1)

/-- Every line actuator is in the freed set (R78). -/
def allFreed (s : State) : Bool := (lineActs s).all fun a => inSet s.lsq.freedSet a

/-- FREED(a) (R78). -/
def takeFreed (a : Fin Config.actuators) (s : State) : State :=
  if s.lsq.seq = .disarming ∧ (lineActs s).contains a = true then
    let s1 := onLsq (fun q => { q with freedSet := putBit q.freedSet a.val true }) s
    if allFreed s1 then enterIdle s1 else s1
  else s

/-! ### Halts (R71 to R76) -/

/-- An orderly halt request: RUNNING goes to HALTING-FINISH in the same step phase (R71). -/
def takeHalt (s : State) : Taken :=
  match s.lsq.seq with
  | .running ph => done (enterSeq (.haltingFinish ph) (setCause .hostOrderly s))
  | .haltingFinish _ => done s
  | .haltingRest => done s
  | _ => refuse s .state

/-- A block's halt request; where it changes no state SEQ_STATE is raised all the same (R71). -/
def takeHaltRequest (c : HaltCause) (s : State) : State :=
  match s.lsq.seq with
  | .running ph => enterSeq (.haltingFinish ph) (setCause c s)
  | _ => raise .seqState s

/-- An immediate halt, as one event: the dwell timer is cancelled, awaited tags emptied, HOLD commanded for every line
actuator not in the fault set (R73, R74). -/
def haltNow (c : HaltCause) (o : HeldOrigin) (s : State) : State :=
  let s1 := emptyAwaited (onLsq (fun q => { q with dwellTimer := none, haltCause := c }) s)
  enterSeq (.held o) (sendAll (((lineActs s).filter fun a => !isFaulted s a).map .holdCommand) s1)

/-- STOP NOW (R60, R73). -/
def takeStopNow (s : State) : Taken :=
  match s.lsq.seq with
  | .running _ => done (haltNow .hostImmediate .step s)
  | .haltingFinish _ => done (haltNow .hostImmediate .step s)
  | .haltingRest => done (haltNow .hostImmediate .rest s)
  | .arming => done (enterDisarming (setCause .hostImmediate s))
  | _ => refuse s .state

/-- REST (R76). -/
def takeRest (s : State) : Taken :=
  match s.lsq.seq with
  | .held _ => done (startRestRamp s)
  | _ => refuse s .state

/-- An actuator's first fault since ARM: it joins the fault set and leaves the awaited tags and re-hold set (R57). -/
def recordFault (a : Fin Config.actuators) (s : State) : State :=
  onLsq (fun q => { q with
    faultSet := putBit q.faultSet a.val true
    awaited := q.awaited.set a none
    reholdSet := putBit q.reholdSet a.val false }) s

/-- ACT_FAULT(a, cause) (R60, R74); the cause plays no part at LSQ. -/
def takeActFault (a : Fin Config.actuators) (s : State) : State :=
  if s.lsq.seq = .idle ∨ isFaulted s a = true then s
  else
    let s1 := recordFault a s
    match s.lsq.seq with
    | .running _ => haltNow .actuatorFault .step s1
    | .haltingFinish _ => haltNow .actuatorFault .step s1
    | .haltingRest => haltNow .actuatorFault .rest s1
    | .arming => enterDisarming (setCause .armFailed s1)
    | _ => s1

/-! ### Settles (R57, R60, R63, R69, R72) -/

/-- What a settle that was awaited does in the present state (R57); in HELD the HOLD waits for the newest tag (R69). -/
def afterSettle (a : Fin Config.actuators) (s : State) : State :=
  match s.lsq.seq with
  | .arming => if nothingAwaited s then onLsq (fun q => { q with position := 0 }) (enterSeq .ready s) else s
  | .running .ramp => if nothingAwaited s then endRamp (.running .dwell) s else s
  | .haltingFinish .ramp => if nothingAwaited s then endRamp (.haltingFinish .dwell) s else s
  | .haltingRest => if nothingAwaited s then enterSeq .halted s else s
  | .held _ =>
    if inSet s.lsq.reholdSet a && !setUnanswered a s then
      send (.holdCommand a) (onLsq (fun q => { q with reholdSet := putBit q.reholdSet a.val false }) s)
    else s
  | _ => s

/-- SETTLED(a, tag): a tag that is not the awaited one is ignored (R57). -/
def takeSettled (a : Fin Config.actuators) (tag : Tag) (s : State) : State :=
  if s.lsq.awaited.get a = some tag then
    afterSettle a (onLsq (fun q => { q with awaited := q.awaited.set a none }) s)
  else s

/-! ### The interval clock and settings (R79 to R81) -/

/-- CLOSE INTERVAL (R80). -/
def takeCloseInterval (s : State) : Taken :=
  done (closeTheInterval s) (le16 (s.lsq.intervalNumber + 1).toNat)

/-- CLEAR PASSES (R80). -/
def takeClearPasses (s : State) : Taken :=
  if s.lsq.seq = .idle then done (onLsq (fun q => { q with passCount := 0 }) s) else refuse s .state

/-- REZONE_STATE_NOTICE: LSQ holds what the ZDU told it (R17). -/
def takeRezoneNotice (isOpen : Bool) (s : State) : State := onLsq (fun q => { q with rezoneOpen := isOpen }) s

/-- A host write to a sequencer setting, SETTINGS fields 4..7 (R81). -/
def writeSequencerSetting (field : Nat) (x : Int) (s : State) : State × Option Reason :=
  match field with
  | 4 => if inRange 100 30000 x then (onLsq (fun q => { q with restRamp := x.toNat }) s, none) else (s, some .range)
  | 5 => if inRange 10 10000 x then (onLsq (fun q => { q with derateRamp := x.toNat }) s, none) else (s, some .range)
  | 6 =>
    if inRange 0 1 x then (onLsq (fun q => { q with intervalAuto := decide (x = 0) }) s, none) else (s, some .range)
  | 7 => if inRange 1 255 x then (onLsq (fun q => { q with intervalLen := x.toNat }) s, none) else (s, some .range)
  | _ => (s, some .readOnly)

/-! ### Meanings -/

/-- ARM (R59). -/
def execArm (tail : List Byte) (s : State) : Result := hostRequest 0x21 (noParams takeArm) tail s
/-- START (R61). -/
def execStart (tail : List Byte) (s : State) : Result := hostRequest 0x22 (noParams takeStart) tail s
/-- HALT (R71). -/
def execHalt (tail : List Byte) (s : State) : Result := hostRequest 0x23 (noParams takeHalt) tail s
/-- STOP NOW (R73). -/
def execStopNow (tail : List Byte) (s : State) : Result := hostRequest 0x24 (noParams takeStopNow) tail s
/-- RESUME (R75). -/
def execResume (tail : List Byte) (s : State) : Result := hostRequest 0x25 (noParams takeResume) tail s
/-- REST (R76). -/
def execRest (tail : List Byte) (s : State) : Result := hostRequest 0x26 (noParams takeRest) tail s
/-- DISARM (R78). -/
def execDisarm (tail : List Byte) (s : State) : Result := hostRequest 0x27 (noParams takeDisarm) tail s
/-- SET SCALE (R67). -/
def execSetScale (tail : List Byte) (s : State) : Result := hostRequest 0x28 (oneByte takeSetScale) tail s
/-- TRIM UP (R67). -/
def execTrimUp (tail : List Byte) (s : State) : Result := hostRequest 0x29 (noParams takeTrimUp) tail s
/-- TRIM DOWN (R67). -/
def execTrimDown (tail : List Byte) (s : State) : Result := hostRequest 0x2A (noParams takeTrimDown) tail s
/-- CLOSE INTERVAL (R80). -/
def execCloseInterval (tail : List Byte) (s : State) : Result := hostRequest 0x2B (noParams takeCloseInterval) tail s
/-- CLEAR PASSES (R80). -/
def execClearPasses (tail : List Byte) (s : State) : Result := hostRequest 0x2C (noParams takeClearPasses) tail s
/-- DERATE_FALL (R68 to R70). -/
def execDerateFall (z : Nat) (s : State) : Result := onArrival (.derateFall z) (takeDerateFall z) s
/-- STRAIN_TRIP (R71). -/
def execStrainTrip (s : State) : Result := onArrival .strainTrip (takeHaltRequest .strainTrip) s
/-- CRACK_GROWTH (R71). -/
def execCrackGrowth (s : State) : Result := onArrival .crackGrowth (takeHaltRequest .crackGrowth) s
/-- CRACK_TABLE_FULL (R71). -/
def execCrackTableFull (s : State) : Result := onArrival .crackTableFull (takeHaltRequest .crackTableFull) s
/-- REZONE_STATE_NOTICE (R17). -/
def execRezoneStateNotice (isOpen : Bool) (s : State) : Result :=
  onArrival (.rezoneStateNotice isOpen) (takeRezoneNotice isOpen) s
/-- SETTLED (R57). -/
def execSettled (a : Fin Config.actuators) (tag : Tag) (s : State) : Result :=
  onArrival (.settled a tag) (takeSettled a tag) s
/-- ACT_FAULT (R74). -/
def execActFault (a : Fin Config.actuators) (cause : ActCause) (s : State) : Result :=
  onArrival (.actFault a cause) (takeActFault a) s
/-- FREED (R78). -/
def execFreed (a : Fin Config.actuators) (s : State) : Result := onArrival (.freed a) (takeFreed a) s
/-- Dwell timer expiry (R64). -/
def execDwellTimerExpiry (s : State) : Result := .next (unlessHeld takeDwellExpiry s)

end Sys2Proof.Machine
end

