-- ==== Sys2Proof/Machine/Judge.lean ====
section
/-! DEFINITION. Machine/Judge.lean: strain judgement of one gauge record: bands, the state steps, extremes, the lazy
transfer, and the quality and shunt rules of a reading (chapters 5 and 6). -/
namespace Sys2Proof.Machine

/-! ### Bands (R109) -/

/-- The centre of a limit set (R109). -/
def LimitSet.centre (l : LimitSet) : Int := (l.upper + l.lower).tdiv 2

/-- The upper alert bound (R109). -/
def LimitSet.upperAlert (l : LimitSet) : Int := l.centre + ((l.upper - l.centre) * l.alertPct).tdiv 100

/-- The lower alert bound (R109). -/
def LimitSet.lowerAlert (l : LimitSet) : Int := l.centre + ((l.lower - l.centre) * l.alertPct).tdiv 100

/-- The strain is beyond a limit (R109). -/
def LimitSet.beyondLimit (l : LimitSet) (x : Int) : Bool := decide (l.upper < x) || decide (x < l.lower)

/-- The strain is beyond an alert bound (R109). -/
def LimitSet.beyondAlert (l : LimitSet) (x : Int) : Bool := decide (l.upperAlert < x) || decide (x < l.lowerAlert)

/-- The strain lies inside the clear band (R109). -/
def LimitSet.inClear (l : LimitSet) (x : Int) : Bool := inRange (l.lower + l.hyst) (l.upper - l.hyst) x

/-- The strain lies inside the quiet band, each end stopping at the centre (R109). -/
def LimitSet.inQuiet (l : LimitSet) (x : Int) : Bool :=
  inRange (min l.centre (l.lowerAlert + l.hyst)) (max l.centre (l.upperAlert - l.hyst)) x

/-! ### The judgement steps (R106 to R117) -/

/-- The strain of a reading (R107). -/
def Gauge.strain (g : Gauge) (value : Int) : Int := clampInt (-32000) 32000 (value - g.zero)

/-- The limit set the zone's load flag chooses (R108). -/
def Gauge.chosenSet (g : Gauge) (flag : Bool) : LimitSet := if flag then g.setA else g.setB

/-- The live extremes follow the strain (R116). -/
def GaugeInterval.follow (n : GaugeInterval) (x : Int) : GaugeInterval :=
  { n with
    max := some (match n.max with
      | none => x
      | some m => if m < x then x else m)
    min := some (match n.min with
      | none => x
      | some m => if x < m then x else m) }

/-- The state the alert test gives (R111). -/
def alertTest (l : LimitSet) (st : GaugeState) (x : Int) : GaugeState :=
  if l.beyondAlert x then .alert
  else if st = .alert ∧ l.inQuiet x = false then .alert
  else .quiet

/-- An entry to OVER: runs at 0 and one more exceedance, saturating (R110, R117). -/
def Gauge.declareOver (g : Gauge) : Gauge :=
  { g with
    state := .over, overRun := 0, clearRun := 0
    live := { g.live with exceed := min 65535 (g.live.exceed + 1) } }

/-- The state step in WAITING, QUIET and ALERT (R110, R111). -/
def judgeBelow (l : LimitSet) (x : Int) (g : Gauge) : Gauge :=
  if l.beyondLimit x then
    if l.declare ≤ min 15 (g.overRun + 1) then g.declareOver
    else { g with overRun := min 15 (g.overRun + 1), state := alertTest l g.state x }
  else { g with overRun := 0, state := alertTest l g.state x }

/-- The state step in OVER (R112). -/
def judgeOver (l : LimitSet) (x : Int) (g : Gauge) : Gauge :=
  if l.inClear x then
    if l.declare ≤ min 15 (g.clearRun + 1) then
      { g with overRun := 0, clearRun := 0, state := if l.beyondAlert x then .alert else .quiet }
    else { g with clearRun := min 15 (g.clearRun + 1) }
  else { g with clearRun := 0 }

/-- Judgement of a reading of this value under the chosen set: extremes, mark, state step (R106). -/
def judge (flag : Bool) (value : Int) (g : Gauge) : Gauge :=
  let l := g.chosenSet flag
  let x := g.strain value
  let g1 := { g with live := g.live.follow x, overHeld := false }
  match g.state with
  | .over => judgeOver l x g1
  | _ => judgeBelow l x g1

/-- The state is one in which a reading is judged (5.1.1). -/
def GaugeState.judged : GaugeState → Bool
  | .waiting => true
  | .quiet => true
  | .alert => true
  | .over => true
  | .vacant => false
  | .fault _ => false
  | .suspended => false

/-! ### The lazy transfer (R120) -/

/-- A touch under the present interval number (R120, R121). -/
def Gauge.touch (present : BitVec 16) (g : Gauge) : Gauge :=
  if g.state = .vacant ∨ g.live.number = present then g
  else { g with held := g.live, live := { number := present } }

/-! ### Quality and shunt rules (R96, R97, R101) -/

/-- What a reading does to its record and to the operations it takes part in. -/
structure ReadingEffect where
  gauge : Gauge
  /-- the reading took the zero (R97, item 2) -/
  zeroed : Bool := false
  /-- the SHUNT of the record ends with this outcome (R101) -/
  shuntEnd : Option ShuntOutcome := none
  /-- a GOOD reading missed the shunt (R101) -/
  miss : Bool := false
  deriving DecidableEq, Repr

/-- Entry to FAULT: runs at 0, and the record leaves a ZERO (R96, R99, R114). -/
def Gauge.enterFault (c : GaugeCause) (g : Gauge) : Gauge :=
  { g with state := .fault c, overRun := 0, clearRun := 0, zeroPending := false }

/-- An OPEN or OVERRANGE reading: a judged record enters FAULT, an open or range fault changes its cause, any other
fault stands (R96, log 28). -/
def badReading (c : GaugeCause) (g : Gauge) : Gauge :=
  match g.state with
  | .fault .open => { g with state := .fault c }
  | .fault .range => { g with state := .fault c }
  | .fault .link => g
  | .fault .shunt => g
  | .vacant => g
  | .suspended => g
  | .waiting => g.enterFault c
  | .quiet => g.enterFault c
  | .alert => g.enterFault c
  | .over => g.enterFault c

/-- Item 1 of R97: FAULT(OPEN) and FAULT(RANGE) return to WAITING. -/
def Gauge.returned (g : Gauge) : Gauge :=
  match g.state with
  | .fault .open => { g with state := .waiting }
  | .fault .range => { g with state := .waiting }
  | _ => g

/-- A GOOD reading (R97). -/
def goodReading (flag : Bool) (value : Int) (g : Gauge) : ReadingEffect :=
  let g1 := Gauge.returned { g with lastGood := some value }
  if g1.zeroPending then { gauge := { g1 with zero := value, zeroPending := false }, zeroed := true }
  else if g1.state.judged then { gauge := judge flag value g1 }
  else { gauge := g1 }

/-- The quality of a reading is taken, no shunt pending (R96). -/
def qualityRule (flag : Bool) (q : Quality) (value : Int) (g : Gauge) : ReadingEffect :=
  match q with
  | .open => { gauge := badReading .open g }
  | .overrange => { gauge := badReading .range g }
  | .shunted => { gauge := g }
  | .good => goodReading flag value g

/-- The record after a failed or missed shunt (R101). -/
def Gauge.shuntFault (g : Gauge) : Gauge := if g.state = .fault .shunt then g else g.enterFault .shunt

/-- The shunted reading lies at its expected value within the tolerance (R101). -/
def Gauge.shuntPasses (g : Gauge) (value : Int) : Bool :=
  decide ((value - g.lastGood.getD 0 - g.shuntStep).natAbs ≤ g.shuntTol)

/-- A reading while shunt pending is set, with the misses so far (R101). -/
def shuntRule (flag : Bool) (misses : Nat) (q : Quality) (value : Int) (g : Gauge) : ReadingEffect :=
  match q with
  | .shunted =>
    if g.shuntPasses value then
      { gauge := if g.state = .fault .shunt then { g with state := .waiting } else g, shuntEnd := some .pass }
    else { gauge := g.shuntFault, shuntEnd := some .fail }
  | .good =>
    let e := goodReading flag value g
    if 3 ≤ misses + 1 then { e with gauge := e.gauge.shuntFault, shuntEnd := some .missed, miss := true }
    else { e with miss := true }
  | .open =>
    { gauge := badReading .open g, shuntEnd := if g.state.judged then some .abandoned else none }
  | .overrange =>
    { gauge := badReading .range g, shuntEnd := if g.state.judged then some .abandoned else none }

/-- A reading arrival at its record: transfer, store, then SUSPENDED, the shunt rule or the quality (R95). -/
def readingEffect (flag : Bool) (present : BitVec 16) (misses : Nat) (q : Quality) (value : Int) (g : Gauge) :
    ReadingEffect :=
  let g1 := { g.touch present with lastValue := value, lastQuality := some q }
  if g1.state = .suspended then { gauge := g1 }
  else if g1.shuntPending then shuntRule flag misses q value g1
  else qualityRule flag q value g1

end Sys2Proof.Machine
end

