-- ==== Sys2Proof/Machine/Gsc.lean ====
section
/-! DEFINITION. Machine/Gsc.lean: the Gauge Scanner: claims, gauge requests and writes, scanner links, reading arrivals,
ZERO and SHUNT, the sweep and RESTART (chapter 5, R118). -/
namespace Sys2Proof.Machine

/-! ### Records and the channel map (R83, R84) -/

/-- Gauge record `i`. -/
def gauge (i : Fin Config.gauges) (s : State) : Gauge := s.gsc.gauges.get i

/-- Gauge record `i` replaced. -/
def setGauge (i : Fin Config.gauges) (g : Gauge) (s : State) : State :=
  onGsc (fun u => { u with gauges := u.gauges.set i g }) s

/-- The channel map's entry number of a key (R84). -/
def mapKey (k : Fin Config.scanners) (channel : Nat) : Nat := k.val * Config.channels + channel

/-- The open record with a key, where there is one; none for a channel above 127 (R84, R95). -/
def gaugeAt (k : Fin Config.scanners) (channel : Nat) (s : State) : Option (Fin Config.gauges) :=
  if channel < Config.channels then s.gsc.chanMap.getD (mapKey k channel) none else none

/-- The channel map's entry of a key replaced (R84). -/
def setMap (k : Fin Config.scanners) (channel : Nat) (x : Option (Fin Config.gauges)) (s : State) : State :=
  onGsc (fun u => { u with chanMap := u.chanMap.setD (mapKey k channel) x }) s

/-- Scanner link `k`. -/
def scannerLink (k : Fin Config.scanners) (s : State) : ScannerLink := s.gsc.links.get k

/-- Scanner link `k` replaced. -/
def setScannerLink (k : Fin Config.scanners) (l : ScannerLink) (s : State) : State :=
  onGsc (fun u => { u with links := u.links.set k l }) s

/-! ### Claims (R85, R86) -/

/-- Counted over (R85). -/
def Gauge.countedOver (g : Gauge) : Bool := g.state != .vacant && (g.state == .over || g.overHeld)

/-- Counted fault (R85). -/
def Gauge.countedFault (g : Gauge) : Bool := g.state.cause?.isSome

/-- The claims of one property: a change of the property, or of the zone while it stays true (R85). -/
def propertyClaims (enter leave : Nat → Instr) (was now : Bool) (oldZone newZone : Nat) : List Instr :=
  match was, now with
  | false, false => []
  | false, true => [enter newZone]
  | true, false => [leave oldZone]
  | true, true => if oldZone = newZone then [] else [leave oldZone, enter newZone]

/-- The claims of an event that takes a record from `old` to `new` (R85). -/
def claimsOf (old new : Gauge) : List Instr :=
  propertyClaims .overEnter .overLeave old.countedOver new.countedOver old.zone new.zone ++
    propertyClaims .faultEnter .faultLeave old.countedFault new.countedFault old.zone new.zone

/-- Record `i` sends its claims: outside a REZONE always, and during the sweep once swept (R86). -/
def Sweep.passed (w : Sweep) (i : Nat) : Bool :=
  match w with
  | .none => true
  | .ordered => false
  | .at n => decide (i < n)

/-- Record `i` becomes `g`, with the claims of R85. -/
def moveGauge (i : Fin Config.gauges) (g : Gauge) (s : State) : State :=
  sendAll (if s.gsc.sweep.passed i.val then claimsOf (gauge i s) g else []) (setGauge i g s)

/-- Every record becomes `f` of itself, with the claims of R85 in index order. -/
def moveGauges (f : Gauge → Gauge) (s : State) : State :=
  sendAll (s.gsc.gauges.rows.zipIdx.flatMap fun x => if s.gsc.sweep.passed x.2 then claimsOf x.1 (f x.1) else [])
    (onGsc (fun u => { u with gauges := u.gauges.map f }) s)

/-- Some record is in ALERT (R103). -/
def anyAlert (s : State) : Bool := s.gsc.gauges.rows.any fun g => g.state == .alert

/-- A GSC event: the ANY_ALERT edge is found by comparing before and after (R103). -/
def alertEvent (f : State → State) (s : State) : State := reportEdge .anyAlert (anyAlert s) (anyAlert (f s)) (f s)

/-! ### ZERO and SHUNT in progress (R99, R102) -/

/-- `n` records leave the pending set of the open ZERO, zeroed or skipped; at 0 it completes (R99). -/
def leaveZero (n : Nat) (zeroed : Bool) (s : State) : State :=
  match s.gsc.zeroOp with
  | none => s
  | some z =>
    let done := z.zeroed + if zeroed then n else 0
    let skip := z.skipped + if zeroed then 0 else n
    if z.pending ≤ n then
      raise .opDone (onGsc (fun u => { u with zeroOp := none, lastZeroed := done, lastSkipped := skip }) s)
    else onGsc (fun u => { u with zeroOp := some { pending := z.pending - n, zeroed := done, skipped := skip } }) s

/-- The SHUNT on record `i` ends: shunt pending cleared, result stored, OP_DONE (R102). -/
def endShunt (i : Fin Config.gauges) (o : ShuntOutcome) (s : State) : State :=
  raise .opDone (onGsc (fun u => { u with
    gauges := u.gauges.modify i fun g => { g with shuntPending := false }
    shuntOp := none, lastShuntGauge := i.val, lastShuntOutcome := o }) s)

/-- The open SHUNT's miss count rises (R101). -/
def countMiss (s : State) : State :=
  onGsc (fun u => { u with shuntOp := u.shuntOp.map fun o => { o with misses := o.misses + 1 } }) s

/-- An event at one record: claims, then the ZERO it leaves, then the SHUNT it ends. -/
def applyEffect (i : Fin Config.gauges) (e : ReadingEffect) (s : State) : State :=
  let s1 := moveGauge i e.gauge s
  let s2 := if (gauge i s).zeroPending && !e.gauge.zeroPending then leaveZero 1 e.zeroed s1 else s1
  let s3 := if e.miss then countMiss s2 else s2
  match e.shuntEnd with
  | some o => endShunt i o s3
  | none => s3

/-! ### Gauge requests (R87 to R90) -/

/-- The state a record enters when opened or watched: FAULT(LINK) on a LOST link, otherwise WAITING (R87, R90). -/
def entryState (k : Fin Config.scanners) (s : State) : GaugeState :=
  if (scannerLink k s).state = .lost then .fault .link else .waiting

/-- The record OPEN GAUGE makes (R87). -/
def openedGauge (k : Fin Config.scanners) (ch : Fin Config.channels) (x : Nat) (s : State) : Gauge :=
  { state := entryState k s, scanner := k, channel := ch, station := x, zone := decodeStation x s,
    live := { number := s.lsq.intervalNumber } }

/-- OPEN GAUGE with its values in range (R87). -/
def takeOpenGauge (i : Fin Config.gauges) (k : Fin Config.scanners) (ch : Fin Config.channels) (x : Nat) (s : State) :
    Taken :=
  if (gauge i s).state ≠ .vacant then refuse s .occupied
  else if (gaugeAt k ch s).isSome then refuse s .keyInUse
  else done (setMap k ch (some i) (moveGauge i (openedGauge k ch x s) s))

/-- OPEN GAUGE: length, then ranges (R87). -/
def parseOpenGauge (params : List Byte) (s : State) : Taken :=
  match params with
  | [i0, i1, k, ch, x0, x1] =>
    match Table.index? Config.gauges (u16 i0 i1), Table.index? Config.scanners k.toNat,
        Table.index? Config.channels ch.toNat with
    | some i, some sc, some c =>
      if Config.maxStation < u16 x0 x1 then refuse s .range else takeOpenGauge i sc c (u16 x0 x1) s
    | _, _, _ => refuse s .range
  | _ => refuse s .format

/-- The SHUNT outcome of a record that leaves judgement: ABANDONED while its shunt is open (R88, R89, R93). -/
def abandoned (g : Gauge) : Option ShuntOutcome := if g.shuntPending then some .abandoned else none

/-- RETIRE GAUGE (R88). -/
def takeRetireGauge (i : Fin Config.gauges) (s : State) : Taken :=
  let g := gauge i s
  if g.state = .vacant then refuse s .state
  else
    done (alertEvent (fun s =>
      setMap g.scanner g.channel none (applyEffect i { gauge := {}, shuntEnd := abandoned g } s)) s)

/-- The record SUSPEND GAUGE leaves (R89). -/
def Gauge.suspended (g : Gauge) : Gauge :=
  { g with state := .suspended, overHeld := false, overRun := 0, clearRun := 0, zeroPending := false }

/-- SUSPEND GAUGE (R89). -/
def takeSuspendGauge (i : Fin Config.gauges) (s : State) : Taken :=
  let g := gauge i s
  if g.state = .vacant ∨ g.state = .suspended then refuse s .state
  else done (alertEvent (applyEffect i { gauge := g.suspended, shuntEnd := abandoned g }) s)

/-- WATCH GAUGE (R90). -/
def takeWatchGauge (i : Fin Config.gauges) (s : State) : Taken :=
  let g := gauge i s
  if g.state = .suspended then
    done (moveGauge i { g with state := entryState g.scanner s, overRun := 0, clearRun := 0 } s)
  else refuse s .state

/-! ### Field writes (R91) -/

/-- The set keeps its upper limit above its lower by more than twice its hysteresis (R91). -/
def LimitSet.related (l : LimitSet) : Bool := decide (l.lower + 2 * l.hyst < l.upper)

/-- A write to member `j` of a limit set: upper, lower, alert percent, hysteresis, declare count (R91). -/
def writeLimit (j : Nat) (x : Int) (l : LimitSet) : Option LimitSet :=
  match j with
  | 0 => if inRange (-32000) 32000 x && { l with upper := x }.related then some { l with upper := x } else none
  | 1 => if inRange (-32000) 32000 x && { l with lower := x }.related then some { l with lower := x } else none
  | 2 =>
    if x = 50 ∨ x = 60 ∨ x = 70 ∨ x = 80 ∨ x = 90 then some { l with alertPct := x.toNat } else none
  | 3 =>
    if inRange 0 1000 x && { l with hyst := x.toNat }.related then some { l with hyst := x.toNat } else none
  | _ => if inRange 1 15 x then some { l with declare := x.toNat } else none

/-- A key write: SUSPENDED alone takes it, and no other open record may hold the key (R91). -/
def writeKey (i : Fin Config.gauges) (k : Fin Config.scanners) (ch : Fin Config.channels) (s : State) :
    State × Option Reason :=
  let g := gauge i s
  match gaugeAt k ch s with
  | some j => if j = i then (s, none) else (s, some .keyInUse)
  | none =>
    (setMap k ch (some i) (setMap g.scanner g.channel none (setGauge i { g with scanner := k, channel := ch } s)), none)

/-- A write to a field of an open gauge record; the claims of a station write follow at the end of the event (R85). -/
def writeOpenGauge (i : Fin Config.gauges) (field : Nat) (x : Int) (s : State) : State × Option Reason :=
  let g := gauge i s
  if field = 1 then
    if g.state ≠ .suspended then (s, some .state)
    else
      match (if 0 ≤ x then Table.index? Config.scanners x.toNat else none) with
      | some k => writeKey i k g.channel s
      | none => (s, some .range)
  else if field = 2 then
    if g.state ≠ .suspended then (s, some .state)
    else
      match (if 0 ≤ x then Table.index? Config.channels x.toNat else none) with
      | some ch => writeKey i g.scanner ch s
      | none => (s, some .range)
  else if field = 3 then
    if inRange 0 65000 x then
      (setGauge i { g with station := x.toNat, zone := decodeStation x.toNat s } s, none)
    else (s, some .range)
  else if field = 7 then
    if inRange (-32000) 32000 x then (setGauge i { g with zero := x } s, none) else (s, some .range)
  else if 10 ≤ field ∧ field ≤ 14 then
    match writeLimit (field - 10) x g.setA with
    | some l => (setGauge i { g with setA := l } s, none)
    | none => (s, some .range)
  else if 15 ≤ field ∧ field ≤ 19 then
    match writeLimit (field - 15) x g.setB with
    | some l => (setGauge i { g with setB := l } s, none)
    | none => (s, some .range)
  else if field = 33 then
    if inRange (-32000) 32000 x then (setGauge i { g with shuntStep := x } s, none) else (s, some .range)
  else if field = 34 then
    if inRange 0 1000 x then (setGauge i { g with shuntTol := x.toNat } s, none) else (s, some .range)
  else (s, some .readOnly)

/-- A host write to a gauge field (R91). -/
def writeGauge (i : Fin Config.gauges) (field : Nat) (x : Int) (s : State) : State × Option Reason :=
  if (gauge i s).state = .vacant then (s, some .vacant) else writeOpenGauge i field x s

/-- The claims of an event between two states over the records `lo..hi`, in index order (R85, R86). -/
def claimsBetween (lo hi : Nat) (s t : State) : List Instr :=
  ((indices Config.gauges).filter fun i => decide (lo ≤ i.val ∧ i.val ≤ hi)).flatMap fun i =>
    if t.gsc.sweep.passed i.val then claimsOf (gauge i s) (gauge i t) else []

/-! ### Scanner links (R92 to R94) -/

/-- A record on scanner `k` when its link is lost: a judged record enters FAULT(LINK), one in OVER with the mark
(R93). -/
def lostGauge (k : Fin Config.scanners) (g : Gauge) : Gauge :=
  if g.scanner = k ∧ g.state.judged = true then
    { g.enterFault .link with overHeld := g.overHeld || g.state == .over }
  else g

/-- A record on scanner `k` when its link returns (R94). -/
def returnedGauge (k : Fin Config.scanners) (g : Gauge) : Gauge :=
  if g.scanner = k ∧ g.state = .fault .link then { g with state := .waiting } else g

/-- The records that leave the ZERO when link `k` is lost (R93). -/
def lostPending (k : Fin Config.scanners) (s : State) : Nat :=
  s.gsc.gauges.rows.countP fun g => g.zeroPending && !(lostGauge k g).zeroPending

/-- A SHUNT in progress on scanner `k` ends ABANDONED (R93, R102). -/
def abandonShuntOn (k : Fin Config.scanners) (s : State) : State :=
  match s.gsc.shuntOp with
  | some o => if (gauge o.gauge s).scanner = k then endShunt o.gauge .abandoned s else s
  | none => s

/-- What a scanner link's loss does to its records (R93). -/
def loseScanner (k : Fin Config.scanners) (s : State) : State :=
  let s1 := send (.linkReport (.scanner k) true) (setScannerLink k { state := .lost, timer := none } s)
  let s2 := moveGauges (lostGauge k) s1
  let n := lostPending k s
  abandonShuntOn k (if n = 0 then s2 else leaveZero n false s2)

/-- A scanner's link timer expires (R93); a stopped timer has no expiry (log 5). -/
def takeScannerTimerExpiry (k : Fin Config.scanners) (s : State) : State :=
  if (scannerLink k s).timer = none then s else alertEvent (loseScanner k) s

/-- A good frame takes the link: the timer restarts, and a LOST link returns (R92, R94). -/
def takeLink (k : Fin Config.scanners) (s : State) : State :=
  let s1 := setScannerLink k { state := .live, timer := some s.gsc.linkTimeout } s
  if (scannerLink k s).state = .lost then
    moveGauges (returnedGauge k) (send (.linkReport (.scanner k) false) s1)
  else s1

/-- A scan frame: a unit that fails is discarded; a good one takes the link, and its readings follow as arrivals of
their own, in frame order (R92, R196). -/
def takeScanFrame (k : Fin Config.scanners) (unit : List Byte) (s : State) : State :=
  match parseScanFrame unit with
  | none => s
  | some rs => sendAll (rs.map fun r => .reading k r.channel r.quality r.value) (takeLink k s)

/-! ### Reading arrivals (R95) -/

/-- The misses of the SHUNT open on record `i`. -/
def missesOf (i : Fin Config.gauges) (s : State) : Nat :=
  match s.gsc.shuntOp with
  | some o => if o.gauge = i then o.misses else 0
  | none => 0

/-- A reading for record `i` (R95). -/
def readGauge (i : Fin Config.gauges) (q : Quality) (value : Int) (s : State) : State :=
  alertEvent (applyEffect i (readingEffect (loadFlagOf (gauge i s).zone s) s.gsc.interval (missesOf i s) q value (gauge i s))) s

/-- A reading arrival: one whose channel has no open record is ignored (R95). -/
def takeReading (k : Fin Config.scanners) (channel : Byte) (q : Quality) (value : BitVec 16) (s : State) : State :=
  match gaugeAt k channel.toNat s with
  | some i => readGauge i q value.toInt s
  | none => s

/-! ### ZERO (R98) -/

/-- A record of the selection joins the ZERO or is skipped (R98). -/
def zeroJoin (s : State) (z : ZeroOp) (g : Gauge) : ZeroOp :=
  if g.state = .vacant then z
  else if g.state.judged = true ∧ (scannerLink g.scanner s).state = .live then { z with pending := z.pending + 1 }
  else { z with skipped := z.skipped + 1 }

/-- A selected record once the ZERO is open (R98). -/
def zeroMark (s : State) (g : Gauge) : Gauge :=
  if g.state.judged = true ∧ (scannerLink g.scanner s).state = .live then { g with zeroPending := true } else g

/-- ZERO is taken over a selection (R98, R99). -/
def beginZero (sel : List (Fin Config.gauges)) (s : State) : State :=
  let z := sel.foldl (fun z i => zeroJoin s z (gauge i s)) { pending := 0, zeroed := 0, skipped := 0 }
  let s1 := sel.foldl (fun t i => setGauge i (zeroMark s (gauge i t)) t) s
  let s2 := onGsc (fun u => { u with zeroOp := some z }) s1
  if z.pending = 0 then leaveZero 0 false s2 else s2

/-- The selection of ZERO FFFFH: the window's records, where it is set over GAUGES (R98). -/
def windowSelection (s : State) : Option (List (Fin Config.gauges)) :=
  match s.sp.window with
  | some w =>
    if w.table = .gauges then
      some ((indices Config.gauges).filter fun i => decide (w.firstRec ≤ i.val ∧ i.val ≤ w.lastRec))
    else none
  | none => none

/-- ZERO (R98). -/
def takeZero (sel : Nat) (s : State) : Taken :=
  if sel ≠ 0xFFFF ∧ Config.gauges ≤ sel then refuse s .range
  else if seqAtRest s = false then refuse s .loadOn
  else if s.gsc.zeroOp.isSome then refuse s .pending
  else
    match (if sel = 0xFFFF then windowSelection s else (Table.index? Config.gauges sel).map fun i => [i]) with
    | some l => started (beginZero l s)
    | none => refuse s .state

/-! ### SHUNT (R100) -/

/-- SHUNT (R100). -/
def takeShunt (i : Fin Config.gauges) (s : State) : Taken :=
  let g := gauge i s
  if (g.state.judged = false ∧ g.state ≠ .fault .shunt) ∨ g.lastGood = none then refuse s .state
  else if (scannerLink g.scanner s).state ≠ .live then refuse s .link
  else if s.gsc.shuntOp.isSome then refuse s .pending
  else
    started (transmit (.scanner g.scanner) (shuntUnit g.channel.val)
      (onGsc (fun u => { u with
        gauges := u.gauges.set i { g with shuntPending := true }
        shuntOp := some { gauge := i, misses := 0 } }) s))

/-! ### Interval closes, settings, sweep, RESTART (R86, R92, R105, R118) -/

/-- GSC takes INTERVAL_CLOSE: the number is stored and no record touched (R118). -/
def takeGscClose (n : BitVec 16) (s : State) : State := onGsc (fun u => { u with interval := n }) s

/-- A host write to the scanner link timeout (R92). -/
def writeLinkTimeout (x : Int) (s : State) : State × Option Reason :=
  if inRange 10 5000 x then (onGsc (fun u => { u with linkTimeout := x.toNat }) s, none) else (s, some .range)

/-- GSC sweeps gauge `i`: the station is decoded under the list installed now and the record's claims are sent for its
new zone; a VACANT record has nothing to do (R86). -/
def sweepGauge (i : Fin Config.gauges) (s : State) : State :=
  let g := gauge i s
  if g.state = .vacant then s
  else
    let z := decodeStation g.station s
    sendAll ((if g.countedOver then [.overEnter z] else []) ++ (if g.countedFault then [.faultEnter z] else []))
      (setGauge i { g with zone := z } s)

/-- A record's part of RESTART (R105, items 2 to 5). -/
def restartGauge (g : Gauge) : Gauge :=
  if g.state = .vacant then g
  else
    { g with
      state := if g.state.judged = true ∨ g.state = .fault .link then .waiting else g.state
      overRun := 0, clearRun := 0, overHeld := false, zeroPending := false, shuntPending := false }

/-- The scanner links in LOST, in order. -/
def lostScanners (s : State) : List (Fin Config.scanners) :=
  (indices Config.scanners).filter fun k => (scannerLink k s).state == .lost

/-- GSC's part of RESTART (R105). -/
def restartGsc (s : State) : State :=
  alertEvent (fun s =>
    moveGauges restartGauge (sendAll ((lostScanners s).map fun k => .linkReport (.scanner k) false)
      (onGsc (fun u => { u with links := Table.fill _ {}, zeroOp := none, shuntOp := none }) s))) s

/-! ### Meanings -/

/-- OPEN GAUGE (R87). -/
def execOpenGauge (tail : List Byte) (s : State) : Result := hostRequest 0x60 parseOpenGauge tail s
/-- RETIRE GAUGE (R88). -/
def execRetireGauge (tail : List Byte) (s : State) : Result := hostRequest 0x61 (oneWord (indexed takeRetireGauge)) tail s
/-- SUSPEND GAUGE (R89). -/
def execSuspendGauge (tail : List Byte) (s : State) : Result :=
  hostRequest 0x62 (oneWord (indexed takeSuspendGauge)) tail s
/-- WATCH GAUGE (R90). -/
def execWatchGauge (tail : List Byte) (s : State) : Result := hostRequest 0x63 (oneWord (indexed takeWatchGauge)) tail s
/-- ZERO (R98). -/
def execZero (tail : List Byte) (s : State) : Result := hostRequest 0x64 (oneWord takeZero) tail s
/-- SHUNT (R100). -/
def execShunt (tail : List Byte) (s : State) : Result := hostRequest 0x65 (oneWord (indexed takeShunt)) tail s
/-- A scan frame (R92). -/
def execScanFrame (k : Fin Config.scanners) (unit : List Byte) (s : State) : Result :=
  .next (unlessHeld (takeScanFrame k unit) s)
/-- One reading (R95). -/
def execReading (k : Fin Config.scanners) (channel : Byte) (q : Quality) (value : BitVec 16) (s : State) : Result :=
  onArrival (.reading k channel q value) (takeReading k channel q value) s
/-- Scanner link timer expiry (R93). -/
def execScannerLinkTimerExpiry (k : Fin Config.scanners) (s : State) : Result :=
  .next (unlessHeld (takeScannerTimerExpiry k) s)
/-- INTERVAL_CLOSE at GSC (R118). -/
def execGscIntervalClose (n : BitVec 16) (s : State) : Result := onArrival (.gscIntervalClose n) (takeGscClose n) s

end Sys2Proof.Machine
end

