-- ==== Sys2Proof/Machine/Cracks.lean ====
section
/-! DEFINITION. Machine/Cracks.lean: the Crack Table of the Crack Watch: claims, opening, confirming, vacating, joining of
evidence, growth, the interval close, host requests and writes (chapter 8), and the activity tallies (R141). -/
namespace Sys2Proof.Machine

/-! ### Records -/

/-- Crack record `i`. -/
def crack (i : Fin Config.cracks) (s : State) : Crack := s.cwu.cracks.get i

/-- Crack record `i` replaced. -/
def setCrack (i : Fin Config.cracks) (r : Crack) (s : State) : State :=
  onCwu (fun w => { w with cracks := w.cracks.set i r }) s

/-- Loop record `l`. -/
def loop (l : Fin Config.loops) (s : State) : Loop := s.cwu.loops.get l

/-- Loop record `l` replaced. -/
def setLoop (l : Fin Config.loops) (r : Loop) (s : State) : State :=
  onCwu (fun w => { w with loops := w.loops.set l r }) s

/-- CWU sweeps 24 loops and 16 sensors before crack record 0 (R142). -/
def crackSweepBase : Nat := Config.loops + Config.sensors

/-- Crack record `i` sends its claims and counts in them: outside a REZONE, or once swept (R146, R165). -/
def crackPassed (s : State) (i : Nat) : Bool := s.cwu.sweep.passed (crackSweepBase + i)

/-! ### Claims (R146) -/

/-- The record is in CONFIRMED or ARRESTED, so its derate enters its zone's (R145). -/
def CrackState.known : CrackState → Bool
  | .confirmed => true
  | .arrested => true
  | .vacant => false
  | .suspect => false

/-- The records that form the claim of zone `z` (R146, R165). -/
def zoneCracks (z : Nat) (s : State) : List Crack :=
  (s.cwu.cracks.rows.zipIdx.filter fun x => x.1.zone == z && x.1.state != .vacant && crackPassed s x.2).map (·.1)

/-- CRACK_DERATE for zone `z` over the records as they stand (R146). -/
def crackClaim (s : State) (z : Nat) : Instr :=
  .crackDerate z (((zoneCracks z s).filter fun r => r.state.known).foldl (fun m r => min m r.derate) 100)
    (zoneCracks z s).length

/-- A CWU event under way: the zones it has touched, the attention classes it raises (each once, log 15) and its
notices to LSQ. -/
structure CrackEvent where
  state : State
  zones : List Nat := []
  classes : List EventClass := []
  notices : List Instr := []
  deriving DecidableEq, Repr

/-- A value added once to a list. -/
def addOnce {α : Type} [DecidableEq α] (x : α) (xs : List α) : List α := if x ∈ xs then xs else xs ++ [x]

/-- A class is raised by the event. -/
def CrackEvent.raise (e : CrackEvent) (c : EventClass) : CrackEvent := { e with classes := addOnce c e.classes }

/-- Zone `z` is touched by record `i`, unless the record waits for the sweep (R146, R165). -/
def CrackEvent.touch (e : CrackEvent) (i : Fin Config.cracks) (z : Nat) : CrackEvent :=
  if crackPassed e.state i.val then { e with zones := addOnce z e.zones } else e

/-- The event's state changed. -/
def CrackEvent.map (e : CrackEvent) (f : State → State) : CrackEvent := { e with state := f e.state }

/-- The end of the event: attention, one claim per touched zone over the records as they are left, notices (R146). -/
def CrackEvent.finish (e : CrackEvent) : State :=
  sendAll e.notices (sendAll (e.zones.map (crackClaim e.state)) (sendAll (e.classes.map .attentionEventReport) e.state))

/-- An event starts. -/
def crackEvent (s : State) : CrackEvent := { state := s }

/-! ### Opening, confirming, vacating (R147 to R149) -/

/-- The lowest VACANT id (R147). -/
def vacantId (s : State) : Option (Fin Config.cracks) :=
  (indices Config.cracks).find? fun i => (crack i s).state == .vacant

/-- A record is opened (R147). -/
def openRecord (i : Fin Config.cracks) (o : Origin) (seed lo hi : Nat) (st : CrackState) (derate confWidth : Nat)
    (e : CrackEvent) : CrackEvent :=
  let z := decodeStation seed e.state
  ((e.map (setCrack i
    { state := st, origin := some o, seed := seed, zone := z, lo := lo, hi := hi, confWidth := confWidth,
      openedPass := e.state.lsq.passCount, derate := derate })).raise .crackOpened).touch i z

/-- A record as confirmed (R148). -/
def Crack.confirmed (derate : Nat) (r : Crack) : Crack :=
  { r with state := .confirmed, derate := derate, confWidth := r.hi - r.lo }

/-- A record is confirmed (R148). -/
def confirmRecord (i : Fin Config.cracks) (e : CrackEvent) : CrackEvent :=
  let r := crack i e.state
  ((e.map (setCrack i (r.confirmed e.state.cwu.confirmDerate))).raise .crackState).touch i r.zone

/-- Every loop of a list loses its bound crack (R132, R149). -/
def unbindLoops (ls : List (Fin Config.loops)) (s : State) : State :=
  ls.foldl (fun t l => setLoop l { loop l t with bound := none } t) s

/-- A record is vacated (R149). -/
def vacateRecord (i : Fin Config.cracks) (e : CrackEvent) : CrackEvent :=
  let r := crack i e.state
  ((e.map fun s => setCrack i {} (unbindLoops r.loops s)).raise .crackState).touch i r.zone

/-! ### Joining (R152) -/

/-- Evidence at `x` qualifies the record; for wire evidence one with 8 loops does not (R152). -/
def Crack.qualifies (r : Crack) (wire : Bool) (join x : Nat) : Bool :=
  r.state != .vacant && inRange ((r.lo : Int) - join) ((r.hi : Int) + join) x &&
    !(wire && decide (Config.loopsPerCrack ≤ r.loops.length))

/-- The record evidence at `x` joins: the least opened pass, then the lowest id (R152). -/
def joinedRecord (wire : Bool) (x : Nat) (s : State) : Option (Fin Config.cracks) :=
  ((indices Config.cracks).filter fun i => (crack i s).qualifies wire s.cwu.joinDistance x).foldl (fun best i =>
    match best with
    | none => some i
    | some j => if (crack i s).openedPass < (crack j s).openedPass then some i else some j) none

/-- The extent widened to `x` (R155). -/
def Crack.widen (x : Nat) (r : Crack) : Crack := { r with lo := min r.lo x, hi := max r.hi x }

/-- The record's growth exceeds a limit that is on, and its flag is clear (R155). -/
def Crack.growthDue (limit : Nat) (r : Crack) : Bool :=
  decide (limit ≠ 0) && decide (limit < (r.hi - r.lo) - r.confWidth) && !r.growthHalt

/-- The growth test of a CONFIRMED record (R155). -/
def growthTest (i : Fin Config.cracks) (e : CrackEvent) : CrackEvent :=
  let r := crack i e.state
  if r.growthDue e.state.cwu.growthLimit then
    let e1 := (e.map (setCrack i { r with growthHalt := true })).raise .crackState
    { e1 with notices := e1.notices ++ [.crackGrowth] }
  else e

/-! ### Evidence (R141, R153, R154, R156) -/

/-- A tally with one more located hit; a full one takes none (R141). -/
def Tally.add (x : Nat) (t : Tally) : Tally :=
  if 65535 ≤ t.count then t
  else
    { count := t.count + 1, sum := t.sum + x,
      min := some (match t.min with
        | none => x
        | some m => Nat.min m x),
      max := some (match t.max with
        | none => x
        | some m => Nat.max m x) }

/-- The located hit passes to the tally of its zone (R141). -/
def tallyHit (z x : Nat) (s : State) : State :=
  onCwu (fun w => { w with tallies := w.tallies.setD z (Tally.add x (w.tallies.getD z {})) }) s

/-- Acoustic evidence joins record `i` (R153). -/
def joinAcoustic (i : Fin Config.cracks) (x : Nat) (e : CrackEvent) : CrackEvent :=
  let r := crack i e.state
  let e1 := e.map (setCrack i { r.widen x with hits := min 65535 (r.hits + 1) })
  match r.state with
  | .arrested => confirmRecord i e1
  | .confirmed => growthTest i e1
  | .suspect => e1
  | .vacant => e1

/-- Acoustic evidence at station `x` of zone `z` (R153). -/
def acousticEvidence (x z : Nat) (e : CrackEvent) : CrackEvent :=
  match joinedRecord false x e.state with
  | some i => joinAcoustic i x e
  | none => e.map (tallyHit z x)

/-- Loop `l` is bound to record `i`: appended to its list (R132). -/
def bindLoop (l : Fin Config.loops) (i : Fin Config.cracks) (s : State) : State :=
  setCrack i { crack i s with loops := (crack i s).loops ++ [l] } (setLoop l { loop l s with bound := some i } s)

/-- Wire evidence joins record `i` (R154). -/
def joinWire (l : Fin Config.loops) (i : Fin Config.cracks) (x : Nat) (e : CrackEvent) : CrackEvent :=
  let r := crack i e.state
  let e1 := e.map fun s => bindLoop l i (setCrack i (r.widen x) s)
  match r.state with
  | .confirmed => growthTest i e1
  | .suspect => confirmRecord i e1
  | .arrested => confirmRecord i e1
  | .vacant => e1

/-- Wire evidence of loop `l` at station `x` (R154, R156). -/
def wireEvidence (l : Fin Config.loops) (x : Nat) (e : CrackEvent) : CrackEvent :=
  match joinedRecord true x e.state with
  | some i => joinWire l i x e
  | none =>
    match vacantId e.state with
    | some i => confirmRecord i ((openRecord i .wire x x x .confirmed 100 0 e).map (bindLoop l i))
    | none =>
      let e1 := e.raise .crackTableFull
      { e1 with notices := e1.notices ++ [.crackTableFull] }

/-! ### The interval close (R157 to R159) -/

/-- The evaluation of a record at a close (R157). -/
def Crack.evaluated (threshold : Nat) (r : Crack) : Crack :=
  if r.state = .vacant then r
  else if threshold ≤ r.hits then { r with activeRun := min 15 (r.activeRun + 1), quietRun := 0, hits := 0 }
  else { r with activeRun := 0, quietRun := min 63 (r.quietRun + 1), hits := 0 }

/-- A SUSPECT record is confirmed or lapses after its evaluation (R158). -/
def settleSuspect (e : CrackEvent) (i : Fin Config.cracks) : CrackEvent :=
  let r := crack i e.state
  if r.state ≠ .suspect then e
  else if e.state.cwu.confirmRun ≤ r.activeRun then confirmRecord i e
  else if e.state.cwu.lapseRun ≤ r.quietRun then vacateRecord i e
  else e

/-- A tally at or above the threshold opens a SUSPECT record, or finds the table full (R156, R159). -/
def openFromTally (e : CrackEvent) (t : Tally) : CrackEvent :=
  if t.count < e.state.cwu.threshold then e
  else
    match vacantId e.state with
    | some i => openRecord i .ae (t.sum / t.count) (t.min.getD 0) (t.max.getD 0) .suspect 100 0 e
    | none => e.raise .crackTableFull

/-- Every activity tally takes its defaults (R141). -/
def clearTallies (s : State) : State := onCwu (fun w => { w with tallies := Table.fill _ {} }) s

/-- CWU takes INTERVAL_CLOSE: evaluation, confirmations and lapses, openings (R157 to R159). -/
def takeCwuClose (s : State) : State :=
  let s1 := onCwu (fun w => { w with cracks := w.cracks.map (Crack.evaluated w.threshold) }) s
  let e1 := (indices Config.cracks).foldl settleSuspect (crackEvent s1)
  let e2 := s.cwu.tallies.rows.foldl openFromTally e1
  (e2.map clearTallies).finish

/-! ### Host requests (R160 to R163) -/

/-- The state OPEN CRACK may carry (R160). -/
def openableState (b : Byte) : Option CrackState :=
  match b.toNat with
  | 1 => some .suspect
  | 2 => some .confirmed
  | _ => none

/-- OPEN CRACK with its values in range (R160). -/
def takeOpenCrack (x lo hi : Nat) (st : CrackState) (derate : Nat) (s : State) : Taken :=
  match vacantId s with
  | none => refuse s .tableFull
  | some i =>
    done (openRecord i .inspection x lo hi st derate (if st = .confirmed then hi - lo else 0) (crackEvent s)).finish
      [byteOf i.val]

/-- OPEN CRACK: length, then ranges (R160). -/
def parseOpenCrack (params : List Byte) (s : State) : Taken :=
  match params with
  | [x0, x1, l0, l1, h0, h1, st, d] =>
    let x := u16 x0 x1
    let lo := u16 l0 l1
    let hi := u16 h0 h1
    match openableState st with
    | some cs =>
      if lo ≤ x ∧ x ≤ hi ∧ hi ≤ Config.maxStation ∧ d.toNat ≤ 100 then takeOpenCrack x lo hi cs d.toNat s
      else refuse s .range
    | none => refuse s .range
  | _ => refuse s .format

/-- CONFIRM CRACK (R161). -/
def takeConfirmCrack (i : Fin Config.cracks) (s : State) : Taken :=
  if (crack i s).state = .suspect then done (confirmRecord i (crackEvent s)).finish else refuse s .state

/-- ARREST CRACK (R162). -/
def takeArrestCrack (i : Fin Config.cracks) (s : State) : Taken :=
  let r := crack i s
  if r.state = .confirmed then
    done ((((crackEvent s).map (setCrack i { r with state := .arrested, derate := s.cwu.arrestDerate })).raise
      .crackState).touch i r.zone).finish
  else refuse s .state

/-- RETIRE CRACK (R163). -/
def takeRetireCrack (i : Fin Config.cracks) (s : State) : Taken :=
  match (crack i s).state with
  | .suspect => done (vacateRecord i (crackEvent s)).finish
  | .arrested => done (vacateRecord i (crackEvent s)).finish
  | .confirmed => refuse s .confirmedHeld
  | .vacant => refuse s .state

/-! ### Field writes (R150, R151) -/

/-- A host write to a crack record; the claims of a derate write follow at the end of the event (R151). -/
def writeCrack (i : Fin Config.cracks) (field : Nat) (x : Int) (s : State) : State × Option Reason :=
  let r := crack i s
  if r.state = .vacant then (s, some .vacant)
  else if field = 9 then
    if r.state = .suspect then (s, some .state)
    else if inRange 0 100 x then (setCrack i { r with derate := x.toNat } s, none)
    else (s, some .range)
  else if field = 23 then
    if inRange 0 65535 x then (setCrack i { r with note := x.toNat } s, none) else (s, some .range)
  else (s, some .readOnly)

/-- A taken growth limit write clears every growth-halt flag (R150). -/
def storeGrowthLimit (v : Nat) (s : State) : State :=
  onCwu (fun w => { w with growthLimit := v, cracks := w.cracks.map fun r => { r with growthHalt := false } }) s

/-- A host write to a crack setting, SETTINGS fields 21..27 (R150). -/
def writeCrackSetting (field : Nat) (x : Int) (s : State) : State × Option Reason :=
  let v := x.toNat
  match field with
  | 21 => if inRange 1 15 x then (onCwu (fun w => { w with confirmRun := v }) s, none) else (s, some .range)
  | 22 => if inRange 1 63 x then (onCwu (fun w => { w with lapseRun := v }) s, none) else (s, some .range)
  | 23 => if inRange 1 255 x then (onCwu (fun w => { w with threshold := v }) s, none) else (s, some .range)
  | 24 => if inRange 0 2000 x then (onCwu (fun w => { w with joinDistance := v }) s, none) else (s, some .range)
  | 25 => if inRange 0 100 x then (onCwu (fun w => { w with confirmDerate := v }) s, none) else (s, some .range)
  | 26 => if inRange 0 100 x then (onCwu (fun w => { w with arrestDerate := v }) s, none) else (s, some .range)
  | 27 => if inRange 0 10000 x then (storeGrowthLimit v s, none) else (s, some .range)
  | _ => (s, some .readOnly)

/-! ### The REZONE sweep (R165) -/

/-- CWU sweeps crack record `i`: its seed is decoded under the list installed now, and the claim of its new zone is
formed over the swept records and this one; a VACANT record has nothing to do (R165). -/
def sweepCrack (i : Fin Config.cracks) (s : State) : State :=
  let s1 := onCwu (fun w => { w with sweep := .at (crackSweepBase + i.val + 1) }) s
  let r := crack i s
  if r.state = .vacant then s1
  else
    let z := decodeStation r.seed s
    let s2 := setCrack i { r with zone := z } s1
    send (crackClaim s2 z) s2

/-! ### Meanings -/

/-- INTERVAL_CLOSE at CWU (R157 to R159); the number it carries plays no part there. -/
def execCwuIntervalClose (n : BitVec 16) (s : State) : Result := onArrival (.cwuIntervalClose n) takeCwuClose s
/-- OPEN CRACK (R160). -/
def execOpenCrack (tail : List Byte) (s : State) : Result := hostRequest 0x80 parseOpenCrack tail s
/-- CONFIRM CRACK (R161). -/
def execConfirmCrack (tail : List Byte) (s : State) : Result := hostRequest 0x81 (oneByte (indexed takeConfirmCrack)) tail s
/-- ARREST CRACK (R162). -/
def execArrestCrack (tail : List Byte) (s : State) : Result := hostRequest 0x82 (oneByte (indexed takeArrestCrack)) tail s
/-- RETIRE CRACK (R163). -/
def execRetireCrack (tail : List Byte) (s : State) : Result := hostRequest 0x83 (oneByte (indexed takeRetireCrack)) tail s

end Sys2Proof.Machine
end

