-- ==== Sys2Proof/Machine/Hits.lean ====
section
/-! DEFINITION. Machine/Hits.lean: wire loops, acoustic sensors, the pending hit list and hit location, and the Crack
Watch's sweep and RESTART (chapter 7). -/
namespace Sys2Proof.Machine

/-! ### Loop lines (R126, R127) -/

/-- A line arrival by the loop's state: the flag always; an opening starts the confirm timer, a close cancels it
(R126). -/
def Loop.line (closed : Bool) (r : Loop) : Loop :=
  match r.state, closed with
  | .intact, false => { r with closed := false, state := .opening, timer := some r.confirmTime }
  | .opening, true => { r with closed := true, state := .intact, timer := none }
  | _, _ => { r with closed := closed }

/-- The level of loop input `l` (R126). -/
def setLoopInput (l : Fin Config.loops) (closed : Bool) (s : State) : State :=
  { s with loopInputs := s.loopInputs.set l closed }

/-- A loop input changes: the level always; the loop record unless the reset line is held (R126). -/
def takeLineChange (l : Fin Config.loops) (closed : Bool) (s : State) : State :=
  unlessHeld (fun t => setLoop l ((loop l t).line closed) t) (setLoopInput l closed s)

/-- A loop's confirm timer expires: BROKEN, LOOP_BROKEN, wire evidence (R127); a stopped timer has no expiry (log 5). -/
def takeConfirmTimerExpiry (l : Fin Config.loops) (s : State) : State :=
  let r := loop l s
  if r.timer = none then s
  else
    (wireEvidence l r.station
      (((crackEvent s).map (setLoop l { r with state := .broken, timer := none })).raise .loopBroken)).finish

/-! ### Loop requests and writes (R128 to R131) -/

/-- ENABLE LOOP (R129). -/
def takeEnableLoop (l : Fin Config.loops) (s : State) : Taken :=
  let r := loop l s
  if r.state ≠ .unused then refuse s .state
  else if r.closed = false then refuse s .stillOpen
  else done (setLoop l { r with state := .intact } s)

/-- A loop leaves the list of the crack it is bound to (R130, R132). -/
def unlistLoop (l : Fin Config.loops) (s : State) : State :=
  match (loop l s).bound with
  | some i => setCrack i { crack i s with loops := (crack i s).loops.erase l } s
  | none => s

/-- REARM LOOP (R130). -/
def takeRearmLoop (l : Fin Config.loops) (s : State) : Taken :=
  let r := loop l s
  if r.state ≠ .broken then refuse s .state
  else if r.closed = false then refuse s .stillOpen
  else done (setLoop l { r with state := .intact, bound := none } (unlistLoop l s))

/-- DISABLE LOOP (R131). -/
def takeDisableLoop (l : Fin Config.loops) (s : State) : Taken :=
  let r := loop l s
  match r.state with
  | .intact => done (setLoop l { r with state := .unused, timer := none } s)
  | .opening => done (setLoop l { r with state := .unused, timer := none } s)
  | .unused => refuse s .state
  | .broken => refuse s .state

/-- A host write to a loop field (R128). -/
def writeLoop (l : Fin Config.loops) (field : Nat) (x : Int) (s : State) : State × Option Reason :=
  let r := loop l s
  match field with
  | 0 =>
    if r.state ≠ .unused then (s, some .state)
    else if inRange 0 65000 x then
      (setLoop l { r with station := x.toNat, zone := decodeStation x.toNat s } s, none)
    else (s, some .range)
  | 3 =>
    if inRange 10 2550 x && decide (x.toNat % 10 = 0) then (setLoop l { r with confirmTime := x.toNat } s, none)
    else (s, some .range)
  | _ => (s, some .readOnly)

/-! ### The sensor line (R133, R134) -/

/-- Sensor record `c`. -/
def sensor (c : Fin Config.sensors) (s : State) : Sensor := s.cwu.sensors.get c

/-- Sensor record `c` replaced. -/
def setSensor (c : Fin Config.sensors) (r : Sensor) (s : State) : State :=
  onCwu (fun w => { w with sensors := w.sensors.set c r }) s

/-- The enabled sensors by ascending station (R134). -/
def sensorLine (s : State) : List (Fin Config.sensors) :=
  sortBy (fun c => (sensor c s).station) ((indices Config.sensors).filter fun c => (sensor c s).enabled)

/-- The pair window of two stations under a speed and margin (R134). -/
def windowOf (xa xb speed margin : Nat) : Nat := (xb - xa) * 256 / speed + margin

/-- The neighbour pairs of a line, lower station first (R134). -/
def neighbourPairs : List (Fin Config.sensors) → List (Fin Config.sensors × Fin Config.sensors)
  | a :: b :: rest => (a, b) :: neighbourPairs (b :: rest)
  | _ => []

/-- The pair window of a neighbour pair, lower station first (R134). -/
def pairWindow (s : State) (p : Fin Config.sensors × Fin Config.sensors) : Nat :=
  windowOf (sensor p.1 s).station (sensor p.2 s).station s.cwu.waveSpeed s.cwu.margin

/-- The largest window, 0 where there are no neighbours (R134). -/
def largestWindow (s : State) : Nat := ((neighbourPairs (sensorLine s)).map (pairWindow s)).foldl max 0

/-- The neighbour pair two sensors form, lower station first (R134). -/
def pairOf (c d : Fin Config.sensors) (s : State) : Option (Fin Config.sensors × Fin Config.sensors) :=
  (neighbourPairs (sensorLine s)).find? fun p => p == (c, d) || p == (d, c)

/-- Another enabled sensor stands at station `x` (R133). -/
def sensorStationTaken (c : Fin Config.sensors) (x : Nat) (s : State) : Bool :=
  (indices Config.sensors).any fun d => d != c && (sensor d s).enabled && (sensor d s).station == x

/-- Every entry of sensor `c` leaves the pending hit list (R133). -/
def forgetHits (c : Fin Config.sensors) (s : State) : State :=
  onCwu (fun w => { w with hits := w.hits.filter fun h => h.sensor != c }) s

/-- A taken station write: entries leave the list where the sensor is enabled and moves (R133). -/
def storeSensorStation (c : Fin Config.sensors) (x : Nat) (s : State) : State :=
  let r := sensor c s
  let s1 := setSensor c { r with station := x, zone := decodeStation x s } s
  if r.enabled = true ∧ r.station ≠ x then forgetHits c s1 else s1

/-- A taken enabled write: entries leave the list where the sensor is turned off (R133). -/
def storeSensorEnabled (c : Fin Config.sensors) (on : Bool) (s : State) : State :=
  let s1 := setSensor c { sensor c s with enabled := on } s
  if (sensor c s).enabled = true ∧ on = false then forgetHits c s1 else s1

/-- A host write to a sensor field (R133). -/
def writeSensor (c : Fin Config.sensors) (field : Nat) (x : Int) (s : State) : State × Option Reason :=
  let r := sensor c s
  match field with
  | 0 =>
    if inRange 0 65000 x = false then (s, some .range)
    else if r.enabled = true ∧ sensorStationTaken c x.toNat s = true then (s, some .station)
    else (storeSensorStation c x.toNat s, none)
  | 2 =>
    if inRange 0 1 x = false then (s, some .range)
    else if x = 1 ∧ r.enabled = false ∧ sensorStationTaken c r.station s = true then (s, some .station)
    else (storeSensorEnabled c (decide (x = 1)) s, none)
  | _ => (s, some .readOnly)

/-- A host write to an acoustic setting, SETTINGS fields 18..20 (R134). -/
def writeAcousticSetting (field : Nat) (x : Int) (s : State) : State × Option Reason :=
  let v := x.toNat
  match field with
  | 18 => if inRange 256 2048 x then (onCwu (fun w => { w with waveSpeed := v }) s, none) else (s, some .range)
  | 19 => if inRange 0 255 x then (onCwu (fun w => { w with margin := v }) s, none) else (s, some .range)
  | 20 => if inRange 30 100 x then (onCwu (fun w => { w with sigAmp := v }) s, none) else (s, some .range)
  | _ => (s, some .readOnly)

/-! ### Hits (R135 to R140) -/

/-- A difference of arrival times, read as signed (00_scope.md 4.2). -/
def timeDiff (t u : BitVec 32) : Int := (t - u).toInt

/-- The hit a unit brings, where it is not discarded (R135). -/
def acceptedHit (unit : List Byte) (s : State) : Option Hit :=
  match parseHit unit with
  | none => none
  | some h =>
    match Table.index? Config.sensors h.sensor with
    | none => none
    | some c =>
      if (sensor c s).enabled = true ∧ 30 ≤ h.amplitude ∧ h.amplitude ≤ 100 then
        some { sensor := c, time := h.time, amplitude := h.amplitude }
      else none

/-- The pending list pruned against time `tn` (R136). -/
def prune (largest : Nat) (tn : BitVec 32) (hits : List Hit) : List Hit :=
  hits.filter fun h => decide (timeDiff tn h.time ≤ largest)

/-- An entry of the same sensor and time (R137). -/
def isDuplicate (h : Hit) (hits : List Hit) : Bool := hits.any fun e => e.sensor == h.sensor && e.time == h.time

/-- The entry pairs with the hit: a neighbour's, within the pair window (R138). -/
def pairsWith (s : State) (h e : Hit) : Bool :=
  match pairOf e.sensor h.sensor s with
  | some p => decide ((timeDiff h.time e.time).natAbs ≤ pairWindow s p)
  | none => false

/-- The list with a hit appended; the oldest of 32 entries leaves first (R138). -/
def appendHit (h : Hit) (hits : List Hit) : List Hit :=
  (if Config.pendingHits ≤ hits.length then hits.drop 1 else hits) ++ [h]

/-- The station of a located hit from stations and times of the lower and higher sensor (R139). -/
def locate (xa xb speed : Nat) (ta tb : BitVec 32) : Nat :=
  (clampInt xa xb ((((xa + xb) / 2 : Nat) : Int) + ((speed : Int) * timeDiff ta tb).tdiv 512)).toNat

/-- The station of the located hit an entry and a hit form (R139). -/
def locatedStation (s : State) (h e : Hit) : Nat :=
  let lower := if (sensor e.sensor s).station ≤ (sensor h.sensor s).station then e else h
  let higher := if (sensor e.sensor s).station ≤ (sensor h.sensor s).station then h else e
  locate (sensor lower.sensor s).station (sensor higher.sensor s).station s.cwu.waveSpeed lower.time higher.time

/-- The pending list replaced. -/
def setHits (hits : List Hit) (s : State) : State := onCwu (fun w => { w with hits := hits }) s

/-- A located hit: dropped below the significant amplitude, otherwise evidence in the zone of its station (R140). -/
def takeLocated (x amplitude : Nat) (s : State) : State :=
  if amplitude < s.cwu.sigAmp then s else (acousticEvidence x (decodeStation x s) (crackEvent s)).finish

/-- A hit is paired or appended (R138). -/
def pairHit (h : Hit) (hits : List Hit) (s : State) : State :=
  match hits.find? (pairsWith s h) with
  | some e => takeLocated (locatedStation s h e) (max h.amplitude e.amplitude) (setHits (hits.erase e) s)
  | none => setHits (appendHit h hits) s

/-- A hit arrival: prune, duplicate test, pairing (R135). -/
def takeHit (unit : List Byte) (s : State) : State :=
  match acceptedHit unit s with
  | none => s
  | some h =>
    let hits := prune (largestWindow s) h.time s.cwu.hits
    if isDuplicate h hits then setHits hits s else pairHit h hits s

/-! ### The sweep and RESTART (R142, R144) -/

/-- CWU sweeps a loop (R142). -/
def sweepLoop (l : Fin Config.loops) (s : State) : State :=
  setLoop l { loop l s with zone := decodeStation (loop l s).station s } s

/-- CWU sweeps a sensor (R142). -/
def sweepSensor (c : Fin Config.sensors) (s : State) : State :=
  setSensor c { sensor c s with zone := decodeStation (sensor c s).station s } s

/-- CWU's record number `n` in sweep order: loops, sensors, cracks (R142). -/
def sweepCwu (n : Nat) (s : State) : State :=
  match Table.index? Config.loops n with
  | some l => sweepLoop l s
  | none =>
    match Table.index? Config.sensors (n - Config.loops) with
    | some c => sweepSensor c s
    | none =>
      match Table.index? Config.cracks (n - crackSweepBase) with
      | some i => sweepCrack i s
      | none => s

/-- A loop's part of RESTART (R144, item 3). -/
def Loop.restarted (r : Loop) : Loop :=
  match r.state, r.closed with
  | .opening, true => { r with state := .intact, timer := none }
  | .opening, false => { r with timer := some r.confirmTime }
  | _, _ => r

/-- CWU's part of RESTART (R144). -/
def restartCwu (s : State) : State :=
  onCwu (fun w => { w with hits := [], tallies := Table.fill _ {}, loops := w.loops.map Loop.restarted }) s

/-! ### Meanings -/

/-- A loop input changes (R126). -/
def execLoopLineChange (l : Fin Config.loops) (closed : Bool) (s : State) : Result := .next (takeLineChange l closed s)
/-- Confirm timer expiry (R127). -/
def execConfirmTimerExpiry (l : Fin Config.loops) (s : State) : Result :=
  .next (unlessHeld (takeConfirmTimerExpiry l) s)
/-- A hit (R135). -/
def execHit (unit : List Byte) (s : State) : Result := .next (unlessHeld (takeHit unit) s)
/-- ENABLE LOOP (R129). -/
def execEnableLoop (tail : List Byte) (s : State) : Result := hostRequest 0x70 (oneByte (indexed takeEnableLoop)) tail s
/-- REARM LOOP (R130). -/
def execRearmLoop (tail : List Byte) (s : State) : Result := hostRequest 0x71 (oneByte (indexed takeRearmLoop)) tail s
/-- DISABLE LOOP (R131). -/
def execDisableLoop (tail : List Byte) (s : State) : Result := hostRequest 0x72 (oneByte (indexed takeDisableLoop)) tail s

end Sys2Proof.Machine
end

