-- ==== Sys2Proof/Machine/Sweep.lean ====
section
/-! DEFINITION. Machine/Sweep.lean: the REZONE sweep of the three owners, one record at a time (R15, R38, R86, R142,
R165). -/
namespace Sys2Proof.Machine

/-- The sweep of an owner. -/
def sweepOf (o : Owner) (s : State) : Sweep :=
  match o with
  | .gsc => s.gsc.sweep
  | .cwu => s.cwu.sweep
  | .ach => s.ach.sweep

/-- The sweep of an owner replaced. -/
def setSweep (o : Owner) (w : Sweep) (s : State) : State :=
  match o with
  | .gsc => onGsc (fun u => { u with sweep := w }) s
  | .cwu => onCwu (fun u => { u with sweep := w }) s
  | .ach => onAch (fun u => { u with sweep := w }) s

/-- The records an owner sweeps (R15). -/
def sweepSize : Owner → Nat
  | .gsc => Config.gauges
  | .cwu => Config.loops + Config.sensors + Config.cracks
  | .ach => Config.actuators

/-- An owner takes the sweep order: its cursor stands at record 0; CWU first clears the tallies (R15, R142). -/
def takeRezoneSweep (o : Owner) (s : State) : State :=
  let s1 := match o with
    | .cwu => clearTallies s
    | .gsc => s
    | .ach => s
  send (.sweepRecord o) (setSweep o (.at 0) s1)

/-- The owner's record number `n` is decoded, with its claims (R38, R86, R142, R165). -/
def sweepOne (o : Owner) (n : Nat) (s : State) : State :=
  match o with
  | .gsc =>
    match Table.index? Config.gauges n with
    | some i => sweepGauge i s
    | none => s
  | .ach =>
    match Table.index? Config.actuators n with
    | some a => sweepActuator a s
    | none => s
  | .cwu => sweepCwu n s

/-- An owner sweeps the record at its cursor, and sends SWEPT; after the last, SWEEP_DONE (R15). -/
def takeSweepRecord (o : Owner) (s : State) : State :=
  match sweepOf o s with
  | .at n =>
    let s1 := send (.swept o) (setSweep o (.at (n + 1)) (sweepOne o n s))
    if n + 1 < sweepSize o then send (.sweepRecord o) s1
    else send (.sweepDone o) (setSweep o .none s1)
  | .ordered => s
  | .none => s

/-- REZONE_SWEEP (R15). -/
def execRezoneSweep (o : Owner) (s : State) : Result := onArrival (.rezoneSweep o) (takeRezoneSweep o) s
/-- The sweep of one record (R86). -/
def execSweepRecord (o : Owner) (s : State) : Result := onArrival (.sweepRecord o) (takeSweepRecord o) s

end Sys2Proof.Machine
end

