-- ==== Sys2Proof/Machine/Window.lean ====
section
/-! DEFINITION. Machine/Window.lean: the record window and lookups: SET WINDOW, READ DATA, WRITE DATA, AMEND ON,
AMEND OFF, FIND, and the window fields of every table (chapter 10, R197). -/
namespace Sys2Proof.Machine

/-! ### Tables (10.1, 11.6) -/

/-- The records of a table. -/
def WTable.records : WTable → Nat
  | .gauges => 512
  | .cracks => 48
  | .loops => 24
  | .sensors => 16
  | .zones => 32
  | .actuators => 8
  | .standbyBank => 1
  | .activeBank => 1
  | .settings => 1

/-- The fields of a table. -/
def WTable.fields : WTable → Nat
  | .gauges => 35
  | .cracks => 24
  | .loops => 6
  | .sensors => 3
  | .zones => 10
  | .actuators => 22
  | .standbyBank => 45
  | .activeBank => 45
  | .settings => 28

/-- The states a FIND over the table may name (R192); none for a table FIND does not take. -/
def WTable.states : WTable → Option Nat
  | .gauges => some 7
  | .cracks => some 4
  | .loops => some 4
  | .sensors => some 2
  | .zones => some 2
  | .actuators => some 5
  | .standbyBank => none
  | .activeBank => none
  | .settings => none

/-- Bank fields with a signed range: cells, bed load, end loads. -/
def bankFieldSigned (f : Nat) : Bool := (decide (2 ≤ f) && decide (f ≤ 18)) || (decide (22 ≤ f) && decide (f ≤ 35))

/-- A field with a signed range (R197). -/
def WTable.signed (t : WTable) (f : Nat) : Bool :=
  match t with
  | .gauges => [7, 10, 11, 15, 16, 22, 24, 26, 27, 30, 31, 33].contains f
  | .actuators => [4, 5, 8, 9, 10, 13, 14].contains f
  | .standbyBank => bankFieldSigned f
  | .activeBank => bankFieldSigned f
  | _ => false

/-! ### Fields read (11.6, R186) -/

/-- A member of a limit set: upper, lower, alert percent, hysteresis, declare count. -/
def limitField (l : LimitSet) (j : Nat) : Option Int :=
  match j with
  | 0 => some l.upper
  | 1 => some l.lower
  | 2 => natField l.alertPct
  | 3 => natField l.hyst
  | _ => natField l.declare

/-- A member of an interval: exceedances, max, min, number; an absent extreme reads 0 (R116). -/
def intervalField (n : GaugeInterval) (j : Nat) : Option Int :=
  match j with
  | 0 => natField n.exceed
  | 1 => some (n.max.getD 0)
  | 2 => some (n.min.getD 0)
  | _ => natField n.number.toNat

/-- GAUGES. -/
def gaugeField (g : Gauge) (f : Nat) : Option Int :=
  match f with
  | 0 => natField g.state.code
  | 1 => natField g.scanner.val
  | 2 => natField g.channel.val
  | 3 => natField g.station
  | 4 => natField g.zone
  | 5 => optField (g.state.cause?.map GaugeCause.code)
  | 6 => flagField g.overHeld
  | 7 => some g.zero
  | 8 => flagField g.zeroPending
  | 9 => flagField g.shuntPending
  | 20 => natField g.overRun
  | 21 => natField g.clearRun
  | 22 => some g.lastValue
  | 23 => natField (qualityCode g.lastQuality)
  | 24 => g.lastGood
  | 33 => some g.shuntStep
  | 34 => natField g.shuntTol
  | f =>
    if f < 15 then limitField g.setA (f - 10)
    else if f < 20 then limitField g.setB (f - 15)
    else if f < 29 then intervalField g.live (f - 25)
    else intervalField g.held (f - 29)

/-- CRACKS. -/
def crackField (id : Nat) (r : Crack) (f : Nat) : Option Int :=
  match f with
  | 0 => natField id
  | 1 => natField r.state.code
  | 2 => optField (r.origin.map Origin.code)
  | 3 => natField r.seed
  | 4 => natField r.zone
  | 5 => natField r.lo
  | 6 => natField r.hi
  | 7 => natField r.confWidth
  | 8 => natField r.openedPass
  | 9 => natField r.derate
  | 10 => natField r.activeRun
  | 11 => natField r.quietRun
  | 12 => natField r.hits
  | 13 => natField r.loops.length
  | 22 => flagField r.growthHalt
  | 23 => natField r.note
  | f => optField (r.loops[f - 14]?.map fun l => l.val)

/-- LOOPS. -/
def loopField (r : Loop) (f : Nat) : Option Int :=
  match f with
  | 0 => natField r.station
  | 1 => natField r.zone
  | 2 => natField r.state.code
  | 3 => natField r.confirmTime
  | 4 => flagField r.closed
  | _ => optField (r.bound.map fun i => i.val)

/-- SENSORS. -/
def sensorField (r : Sensor) (f : Nat) : Option Int :=
  match f with
  | 0 => natField r.station
  | 1 => natField r.zone
  | _ => flagField r.enabled

/-- ZONES, the low station given. -/
def zoneField (low : Nat) (e : ZoneEntry) (f : Nat) : Option Int :=
  match f with
  | 0 => natField low
  | 1 => natField e.manual
  | 2 => natField e.overDerate
  | 3 => natField e.crackDerate
  | 4 => natField e.gaugeDerate
  | 5 => natField e.effective
  | 6 => natField e.overCount
  | 7 => natField e.faultCount
  | 8 => natField e.crackCount
  | _ => flagField e.loadFlag

/-- ACTUATORS. -/
def actuatorField (r : Actuator) (f : Nat) : Option Int :=
  match f with
  | 0 => natField r.station
  | 1 => natField r.zone
  | 2 => natField r.state.code
  | 3 => some r.compLimit
  | 4 => some r.tensLimit
  | 5 => some r.restLoad
  | 6 => natField r.followLimit
  | 7 => natField r.settleAllow
  | 8 => some r.strokeMin
  | 9 => some r.strokeMax
  | 10 => some r.lastTarget
  | 11 => natField r.lastRamp
  | 12 => natField r.lastTag.toNat
  | 13 => some r.repForce
  | 14 => some r.repStroke
  | 15 => natField (cardStatusCode r.repStatus)
  | 16 => natField r.repEcho.toNat
  | 17 => natField r.link.code
  | 18 => optField (r.state.cause?.map ActCause.code)
  | 19 => natField r.followRun
  | 20 => flagField r.settledMark
  | _ => flagField r.freeWait

/-- A failing item of a bank, its index or its actuator (R43, R47). -/
def failingField (b : Bank) (pick : Failing → Option Nat) : Option Int := optField (b.state.failing?.bind pick)

/-- STANDBY BANK and ACTIVE BANK. -/
def bankField (name : BankName) (b : Bank) (f : Nat) : Option Int :=
  match f with
  | 0 => natField name.code
  | 1 => natField b.len
  | 18 => some b.bed
  | 19 => natField b.lead
  | 20 => natField b.trail
  | 21 => natField b.endCount
  | 36 => natField b.ramp
  | 37 => natField b.dwell
  | 38 => natField b.dir.code
  | 39 => flagField b.shuttle
  | 40 => natField b.target
  | 41 => natField b.state.code
  | 42 => failingField b fun x => some x.item.code
  | 43 => failingField b fun x => x.index
  | 44 => failingField b fun x => x.act
  | f => if f < 18 then some (b.cell (f - 2)) else some (b.endLoad (f - 22))

/-- SETTINGS. -/
def settingField (s : State) (f : Nat) : Option Int :=
  match f with
  | 0 => natField s.zdu.tripCount
  | 1 => flagField s.zdu.tripArmed
  | 2 => natField s.ach.reportTimeout
  | 3 => natField s.ach.freeTime
  | 4 => natField s.lsq.restRamp
  | 5 => natField s.lsq.derateRamp
  | 6 => natField (if s.lsq.intervalAuto then 0 else 1)
  | 7 => natField s.lsq.intervalLen
  | 8 => natField s.lsq.scale
  | 9 => natField s.lsq.passCount
  | 10 => natField s.lsq.intervalNumber.toNat
  | 11 => natField s.lsq.intervalPasses
  | 12 => natField s.lsq.direction.code
  | 13 => natField s.gsc.linkTimeout
  | 14 => natField s.gsc.lastZeroed
  | 15 => natField s.gsc.lastSkipped
  | 16 => natField s.gsc.lastShuntGauge
  | 17 => natField s.gsc.lastShuntOutcome.code
  | 18 => natField s.cwu.waveSpeed
  | 19 => natField s.cwu.margin
  | 20 => natField s.cwu.sigAmp
  | 21 => natField s.cwu.confirmRun
  | 22 => natField s.cwu.lapseRun
  | 23 => natField s.cwu.threshold
  | 24 => natField s.cwu.joinDistance
  | 25 => natField s.cwu.confirmDerate
  | 26 => natField s.cwu.arrestDerate
  | _ => natField s.cwu.growthLimit

/-- Gauge `r` as a read sees it: a VACANT one at its defaults (R84). -/
def shownGauge (r : Nat) (s : State) : Gauge :=
  let g := s.gsc.gauges.getD r {}
  if g.state = .vacant then {} else g

/-- Crack `r` as a read sees it: a VACANT one at its defaults (R151). -/
def shownCrack (r : Nat) (s : State) : Crack :=
  let c := s.cwu.cracks.getD r {}
  if c.state = .vacant then {} else c

/-- Zone entry `r` as a read sees it: one out of use at its defaults (R4). -/
def shownZone (r : Nat) (s : State) : ZoneEntry := if r < zoneCount s then zoneEntry r s else {}

/-- The value of a cell (R186). -/
def cellValue (t : WTable) (r f : Nat) (s : State) : Option Int :=
  match t with
  | .gauges => gaugeField (shownGauge r s) f
  | .cracks => crackField r (shownCrack r s) f
  | .loops => loopField (s.cwu.loops.getD r {}) f
  | .sensors => sensorField (s.cwu.sensors.getD r {}) f
  | .zones => zoneField (if r < zoneCount s then zoneLow r s else 0) (shownZone r s) f
  | .actuators => actuatorField (s.ach.acts.getD r {}) f
  | .standbyBank => bankField s.lsq.active.other (standbyBank s) f
  | .activeBank => bankField s.lsq.active (activeBank s) f
  | .settings => settingField s f

/-- The vacancy mark of a record (R186). -/
def vacancyMark (t : WTable) (r : Nat) (s : State) : Bool :=
  match t with
  | .gauges => (s.gsc.gauges.getD r {}).state == .vacant
  | .cracks => (s.cwu.cracks.getD r {}).state == .vacant
  | .loops => (s.cwu.loops.getD r {}).state == .unused
  | .zones => decide (zoneCount s ≤ r)
  | _ => false

/-- The live and held interval fields of GAUGES (R121). -/
def WTable.isInterval (t : WTable) (f : Nat) : Bool := t == .gauges && decide (25 ≤ f ∧ f ≤ 32)

/-- A read of an interval field touches the record (R121). -/
def touchCell (t : WTable) (r f : Nat) (s : State) : State :=
  if t.isInterval f then
    onGsc (fun u => { u with gauges := u.gauges.setD r ((u.gauges.getD r {}).touch u.interval) }) s
  else s

/-! ### The window (R184, R185) -/

/-- The unmasked fields of the span, ascending (R184). -/
def Window.unmasked (w : Window) : List Nat :=
  ((List.range (w.lastField - w.firstField + 1)).filter fun i => w.mask.getLsbD i).map fun i => w.firstField + i

/-- The number of cells (R184). -/
def Window.cellCount (w : Window) : Nat := w.unmasked.length * (w.lastRec - w.firstRec + 1)

/-- The lowest unmasked field (R185). -/
def Window.firstCellField (w : Window) : Nat := w.unmasked.headD w.firstField

/-- The unmasked field after the pointer's, or the lowest, with whether it wrapped (R185). -/
def Window.fieldAfter (w : Window) : Nat × Bool :=
  match w.unmasked.find? fun f => decide (w.ptrField < f) with
  | some f => (f, false)
  | none => (w.firstCellField, true)

/-- The record after the pointer's, or the first, with whether it wrapped (R185). -/
def Window.recordAfter (w : Window) : Nat × Bool :=
  if w.ptrRec < w.lastRec then (w.ptrRec + 1, false) else (w.firstRec, true)

/-- The pointer moves to the next cell of the sequence (R185). -/
def Window.advance (w : Window) : Window :=
  match w.order with
  | .record =>
    if w.fieldAfter.2 then { w with ptrField := w.fieldAfter.1, ptrRec := w.recordAfter.1 }
    else { w with ptrField := w.fieldAfter.1 }
  | .field =>
    if w.recordAfter.2 then { w with ptrRec := w.recordAfter.1, ptrField := w.fieldAfter.1 }
    else { w with ptrRec := w.recordAfter.1 }

/-- The pointer moves over `n` cells (R185). -/
def Window.advanceBy : Nat → Window → Window
  | 0, w => w
  | n + 1, w => Window.advanceBy n w.advance

/-- The `n` cells from the pointer, in sequence order (R185). -/
def Window.cellsFrom : Nat → Window → List (Nat × Nat)
  | 0, _ => []
  | n + 1, w => (w.ptrRec, w.ptrField) :: Window.cellsFrom n w.advance

/-- The window's checks after its length and codes (R184, checks 3, 4 and 6). -/
def windowOk (t : WTable) (firstRec lastRec firstField lastField : Nat) (mask : BitVec 32) : Bool :=
  decide (firstRec ≤ lastRec) && decide (lastRec < t.records) && decide (firstField ≤ lastField) &&
    decide (lastField < t.fields) && decide (lastField - firstField ≤ 31) &&
    (List.range (lastField - firstField + 1)).any fun i => mask.getLsbD i

/-- A window with its pointer on the first cell (R185). -/
def placeWindow (t : WTable) (firstRec lastRec firstField lastField : Nat) (o : ScanOrder) (mask : BitVec 32) :
    Window :=
  let w : Window :=
    { table := t, firstRec := firstRec, lastRec := lastRec, firstField := firstField, lastField := lastField,
      order := o, mask := mask, ptrRec := firstRec, ptrField := firstField }
  { w with ptrField := w.firstCellField }

/-- SP's window replaced. -/
def setTheWindow (w : Window) (s : State) : State := onSp (fun sp => { sp with window := some w }) s

/-- SET WINDOW (R184). -/
def takeSetWindow (params : List Byte) (s : State) : Taken :=
  match params with
  | [tb, a0, a1, b0, b1, f0, f1, ob, m0, m1, m2, m3] =>
    let mask := BitVec.ofNat 32 (u32 m0 m1 m2 m3)
    match tableOf tb, scanOrderOf ob with
    | some t, some o =>
      if windowOk t (u16 a0 a1) (u16 b0 b1) f0.toNat f1.toNat mask then
        let w := placeWindow t (u16 a0 a1) (u16 b0 b1) f0.toNat f1.toNat o mask
        done (setTheWindow w s) (le16 w.cellCount)
      else refuse s .range
    | _, _ => refuse s .range
  | _ => refuse s .format

/-! ### READ DATA (R186, R187) -/

/-- One cell as read: value and vacancy mark. -/
structure CellRead where
  value : Word
  mark : Bool
  deriving DecidableEq, Repr

/-- The cells are answered in sequence order, each touch made before its cell (R186, R121). -/
def readCells (t : WTable) : List (Nat × Nat) → State → State × List CellRead
  | [], s => (s, [])
  | (r, f) :: rest, s =>
    let s1 := touchCell t r f s
    let x := readCells t rest s1
    (x.1, { value := windowValue (cellValue t r f s1), mark := vacancyMark t r s1 } :: x.2)

/-- The vacancy marks, bit i for value i (11.3). -/
def markBits (xs : List CellRead) : Nat := xs.foldr (fun x m => 2 * m + if x.mark then 1 else 0) 0

/-- The pointer and the AMEND flag, as READ DATA and WRITE DATA show them (11.3). -/
def placeBytes (w : Window) (amend : Bool) : List Byte := le16 w.ptrRec ++ [byteOf w.ptrField, flagByte amend]

/-- The result data of READ DATA: the place it began at, the marks, the values (11.3). -/
def readDataResult (place : List Byte) (xs : List CellRead) : List Byte :=
  place ++ le32 (markBits xs) ++ xs.flatMap fun x => le32 x.value.toNat

/-- The owner of a SETTINGS field (11.6). -/
def settingOwner (f : Nat) : Block :=
  if f ≤ 1 then .zdu else if f ≤ 3 then .ach else if f ≤ 12 then .lsq else if f ≤ 17 then .gsc else .cwu

/-- The owners concerned in a request over SETTINGS fields (R186, R189). -/
def ownersOf (fields : List Nat) : List Block :=
  [Block.zdu, .ach, .lsq, .gsc, .cwu].filter fun b => fields.any fun f => settingOwner f == b

/-- READ DATA of `n` values (R187); over SETTINGS each owner answers its own cells by an event of its own (R186). -/
def takeReadData (n : Nat) (s : State) : Taken :=
  if n = 0 ∨ 30 < n then refuse s .range
  else
    match s.sp.window with
    | none => refuse s .state
    | some w =>
      let moved := fun t => if s.sp.amend then t else setTheWindow (w.advanceBy n) t
      let place := placeBytes w s.sp.amend
      if w.table = .settings then
        let fields := (w.cellsFrom n).map fun c => c.2
        asking { op := .read (fields.map fun f => { field := f }), place := place, waiting := ownersOf fields } (moved s)
      else
        let x := readCells w.table (w.cellsFrom n) s
        done (moved x.1) (readDataResult place x.2)

/-- An owner answers its own cells of a READ DATA over SETTINGS, as one event (R186). -/
def answerReads (b : Block) (s : State) (cells : List SettingRead) : List SettingRead :=
  cells.map fun c =>
    if settingOwner c.field = b then { c with value := some (windowValue (cellValue .settings 0 c.field s)) } else c

/-- The cells of a READ DATA over SETTINGS once every owner has answered; SETTINGS marks no record (R186). -/
def readsAnswered (cells : List SettingRead) : List CellRead :=
  cells.map fun c => { value := c.value.getD 0, mark := false }

/-! ### WRITE DATA (R188) -/

/-- A host write to a zone entry: VACANT, then READ_ONLY, then RANGE (R4, log 12). -/
def writeZone (z field : Nat) (x : Int) (s : State) : State × Option Reason :=
  if zoneCount s ≤ z then (s, some .vacant)
  else if field ≠ 1 ∧ field ≠ 2 then (s, some .readOnly)
  else if inRange 0 100 x = false then (s, some .range)
  else if field = 1 then (writeManual z x.toNat s, none)
  else (writeOverDerate z x.toNat s, none)

/-- A host write to a SETTINGS field, by its owner (11.6). -/
def writeSetting (field : Nat) (x : Int) (s : State) : State × Option Reason :=
  if field = 0 then
    if inRange 0 64 x then (writeTripCount x.toNat s, none) else (s, some .range)
  else if field = 2 then
    if inRange 5 200 x then (onAch (fun h => { h with reportTimeout := x.toNat }) s, none) else (s, some .range)
  else if field = 3 then
    if inRange 1000 60000 x then (onAch (fun h => { h with freeTime := x.toNat }) s, none) else (s, some .range)
  else if 4 ≤ field ∧ field ≤ 7 then writeSequencerSetting field x s
  else if field = 13 then writeLinkTimeout x s
  else if 18 ≤ field ∧ field ≤ 20 then writeAcousticSetting field x s
  else if 21 ≤ field ∧ field ≤ 27 then writeCrackSetting field x s
  else (s, some .readOnly)

/-- A claim offered to the record of a table of `n`. -/
def writeRecord {n : Nat} (f : Fin n → Nat → Int → State → State × Option Reason) (r field : Nat) (x : Int)
    (s : State) : State × Option Reason :=
  match Table.index? n r with
  | some i => f i field x s
  | none => (s, some .range)

/-- A field-write claim at the cell's owner: taken, or skipped with a reason (R188). -/
def writeCell (t : WTable) (r f : Nat) (v : Word) (s : State) : State × Option Reason :=
  let x := writtenNumber (t.signed f) v
  match t with
  | .gauges => writeRecord writeGauge r f x s
  | .cracks => writeRecord writeCrack r f x s
  | .loops => writeRecord writeLoop r f x s
  | .sensors => writeRecord writeSensor r f x s
  | .zones => writeZone r f x s
  | .actuators => writeRecord writeActuator r f x s
  | .standbyBank => writeStandbyBank f x s
  | .activeBank => (s, some .bankActive)
  | .settings => writeSetting f x s

/-- The values are offered one after another; each outcome stands beside its cell (R188). -/
def writeCells (t : WTable) : List ((Nat × Nat) × Word) → State → State × List ((Nat × Nat) × Option Reason)
  | [], s => (s, [])
  | ((r, f), v) :: rest, s =>
    let y := writeCell t r f v s
    let x := writeCells t rest y.1
    (x.1, ((r, f), y.2) :: x.2)

/-- The zones a request's taken crack derate writes touch (R146, R151, R165). -/
def writtenCrackZones (outs : List ((Nat × Nat) × Option Reason)) (s : State) : List Nat :=
  (outs.filter fun o => o.1.2 == 9 && o.2.isNone && crackPassed s o.1.1).foldl
    (fun zs o => addOnce (s.cwu.cracks.getD o.1.1 {}).zone zs) []

/-- The claims that close the owner's event: R85 for GAUGES, R146 for CRACKS. -/
def writeClaims (w : Window) (outs : List ((Nat × Nat) × Option Reason)) (s t : State) : List Instr :=
  match w.table with
  | .gauges => claimsBetween w.firstRec w.lastRec s t
  | .cracks => (writtenCrackZones outs t).map (crackClaim t)
  | _ => []

/-- The reason of the first skipped claim, or NONE (R188). -/
def firstSkip (outs : List ((Nat × Nat) × Option Reason)) : Reason :=
  (outs.findSome? fun o => o.2).getD .none

/-- The result data of WRITE DATA: the counts, the first skip reason, the place after the last value (11.3). -/
def writeDataResult (outs : List ((Nat × Nat) × Option Reason)) (place : List Byte) : List Byte :=
  [byteOf (outs.countP fun o => o.2.isNone), byteOf (outs.countP fun o => o.2.isSome), (firstSkip outs).code] ++ place

/-- WRITE DATA (R188); over SETTINGS each owner takes its own claims by an event of its own (R189). -/
def takeWriteData (params : List Byte) (s : State) : Taken :=
  if params = [] ∨ params.length % 4 ≠ 0 then refuse s .format
  else
    match s.sp.window with
    | none => refuse s .state
    | some w =>
      let vs := wordsOf params
      let w' := w.advanceBy vs.length
      let cells := (w.cellsFrom vs.length).zip vs
      let place := placeBytes w' s.sp.amend
      if w.table = .settings then
        asking
          { op := .write (cells.map fun c => { field := c.1.2, value := c.2 }), place := place
            waiting := ownersOf (cells.map fun c => c.1.2) } (setTheWindow w' s)
      else
        let x := writeCells w.table cells s
        done (setTheWindow w' (sendAll (writeClaims w x.2 s x.1) x.1)) (writeDataResult x.2 place)

/-- An owner takes or skips its own claims of a WRITE DATA over SETTINGS, in sequence order, as one event (R188,
R189). -/
def takeSettingClaims (b : Block) (claims : List SettingClaim) (s : State) : State × List SettingClaim :=
  claims.foldl (fun t c =>
    if settingOwner c.field = b then
      let y := writeCell .settings 0 c.field c.value t.1
      (y.1, t.2 ++ [{ c with outcome := some y.2 }])
    else (t.1, t.2 ++ [c])) (s, [])

/-- The outcomes of a WRITE DATA over SETTINGS once every owner has answered, in sequence order (R189). -/
def claimsAnswered (claims : List SettingClaim) : List ((Nat × Nat) × Option Reason) :=
  claims.map fun c => ((0, c.field), c.outcome.getD none)

/-! ### AMEND (R190) -/

/-- AMEND ON (R190). -/
def takeAmendOn (s : State) : Taken :=
  if s.sp.window.isSome then done (onSp (fun sp => { sp with amend := true }) s) else refuse s .state

/-- AMEND OFF (R190). -/
def takeAmendOff (s : State) : Taken := done (endAmend s)

/-! ### FIND (R192, R193) -/

/-- The relations of a field test (11.5). -/
inductive Relation where
  | none | equal | notEqual | atLeast | atMost
  deriving DecidableEq, Repr

/-- The relation a code names (11.5). -/
def relationOf (b : Byte) : Option Relation :=
  match b.toNat with
  | 0 => some .none
  | 1 => some .equal
  | 2 => some .notEqual
  | 3 => some .atLeast
  | 4 => some .atMost
  | _ => Option.none

/-- A FIND whose checks have passed. -/
structure Lookup where
  table : WTable
  states : Byte
  /-- none for any zone -/
  zone : Option Nat
  field : Nat
  relation : Relation
  value : Word
  deriving DecidableEq, Repr

/-- The place of a record's state in the order of R192. -/
def stateNumber (t : WTable) (r : Nat) (s : State) : Nat :=
  match t with
  | .gauges => (s.gsc.gauges.getD r {}).state.code
  | .cracks => (s.cwu.cracks.getD r {}).state.code
  | .loops => (s.cwu.loops.getD r {}).state.code
  | .sensors => if (s.cwu.sensors.getD r {}).enabled then 0 else 1
  | .zones => if r < zoneCount s then 0 else 1
  | .actuators => (s.ach.acts.getD r {}).state.code
  | _ => 0

/-- The stored zone of a record (R193). -/
def storedZone (t : WTable) (r : Nat) (s : State) : Nat :=
  match t with
  | .gauges => (shownGauge r s).zone
  | .cracks => (shownCrack r s).zone
  | .loops => (s.cwu.loops.getD r {}).zone
  | .sensors => (s.cwu.sensors.getD r {}).zone
  | .actuators => (s.ach.acts.getD r {}).zone
  | _ => 0

/-- The value read and the value carried in the relation, as signed or unsigned numbers (R197). -/
def relationHolds (signed : Bool) (rel : Relation) (read carried : Word) : Bool :=
  match rel with
  | .none => true
  | .equal => read == carried
  | .notEqual => read != carried
  | .atLeast => decide (writtenNumber signed carried ≤ writtenNumber signed read)
  | .atMost => decide (writtenNumber signed read ≤ writtenNumber signed carried)

/-- The record matches (R193). -/
def Lookup.holds (q : Lookup) (r : Nat) (s : State) : Bool :=
  q.states.getLsbD (stateNumber q.table r s) &&
    (match q.zone with
      | Option.none => true
      | some z => storedZone q.table r s == z) &&
    relationHolds (q.table.signed q.field) q.relation (windowValue (cellValue q.table r q.field s)) q.value

/-- The records are examined in index order up to the first match; an interval test touches each one (R193). -/
def Lookup.search (q : Lookup) : List Nat → State → State × Option Nat
  | [], s => (s, Option.none)
  | r :: rest, s =>
    let s1 := if q.relation = .none then s else touchCell q.table r q.field s
    if q.holds r s1 then (s1, some r) else q.search rest s1

/-- The checks of FIND after its length, codes and table (R192, checks 3 to 7). -/
def findOk (t : WTable) (nStates : Nat) (set zone : Byte) (start field : Nat) (rel : Relation) (reserved : Byte) :
    Bool :=
  set != 0 && decide (set.toNat < 2 ^ nStates) &&
    (zone == 0xFF || (t != .zones && decide (zone.toNat < Config.zones))) && decide (start < t.records) &&
    (rel == .none || decide (field < t.fields)) && reserved == 0

/-- FIND (R192, R193). -/
def takeFind (params : List Byte) (s : State) : Taken :=
  match params with
  | [tb, set, zone, i0, i1, field, relb, v0, v1, v2, v3, reserved] =>
    match tableOf tb, relationOf relb with
    | some t, some rel =>
      match t.states with
      | some n =>
        if findOk t n set zone (u16 i0 i1) field.toNat rel reserved then
          let q : Lookup :=
            { table := t, states := set, zone := if zone = 0xFF then Option.none else some zone.toNat,
              field := field.toNat, relation := rel, value := BitVec.ofNat 32 (u32 v0 v1 v2 v3) }
          let x := q.search (List.range' (u16 i0 i1) (t.records - u16 i0 i1)) s
          done x.1 (le16 (x.2.getD 0xFFFF))
        else refuse s .range
      | Option.none => refuse s .range
    | _, _ => refuse s .range
  | _ => refuse s .format

/-! ### Meanings -/

/-- SET WINDOW (R184). -/
def execSetWindow (tail : List Byte) (s : State) : Result := hostRequest 0x10 takeSetWindow tail s
/-- READ DATA (R187). -/
def execReadData (tail : List Byte) (s : State) : Result := hostRequestKeepingAmend 0x11 (oneByte takeReadData) tail s
/-- WRITE DATA (R188). -/
def execWriteData (tail : List Byte) (s : State) : Result := hostRequestKeepingAmend 0x12 takeWriteData tail s
/-- AMEND ON (R190). -/
def execAmendOn (tail : List Byte) (s : State) : Result := hostRequestKeepingAmend 0x13 (noParams takeAmendOn) tail s
/-- AMEND OFF (R190). -/
def execAmendOff (tail : List Byte) (s : State) : Result := hostRequest 0x14 (noParams takeAmendOff) tail s
/-- FIND (R193). -/
def execFind (tail : List Byte) (s : State) : Result := hostRequest 0x15 takeFind tail s

end Sys2Proof.Machine
end

