-- ==== Sys2Proof/Machine/Port.lean ====
section
/-! DEFINITION. Machine/Port.lean: the Station Port: FETCH, the answer slot, STATUS, attention, RESTART, unknown frames and
the reset line (chapter 9). -/
namespace Sys2Proof.Machine

/-! ### FETCH and the answer slot (R169 to R171, R195) -/

/-- The answer frame of the slot's state (11.1, R171, R195). -/
def answerFrame (slot : Slot) : List Byte :=
  match slot with
  | .empty => [0, emptyCode, 0, 0, 0]
  | .working code => [code, waitCode, 0, 0, 0]
  | .ready a =>
    [a.request, a.reply.code.code, flagByte a.overrunMark, a.reply.reason.code, byteOf a.reply.data.length] ++
      a.reply.data

/-- The first `n` bytes the host reads of a frame, 00H past its end (R195). -/
def clockedOut (n : Nat) (frame : List Byte) : List Byte := (frame ++ List.replicate n 0).take n

/-- FETCH: the frame is clocked out and nothing else changes (R171). -/
def takeFetch (clocked : Nat) (s : State) : State :=
  onSp (fun sp => { sp with dataOut := clockedOut clocked (answerFrame sp.slot) }) s

/-! ### STATUS (R173, R174) -/

/-- The attention bytes of STATUS: latches, masks, edge modes, condition values. -/
def attentionBytes (sp : Sp) : List Byte :=
  le16 sp.latches.toNat ++ le16 sp.masks.toNat ++ [byteOf sp.edgeModes.toNat, byteOf sp.condValues.toNat]

/-- The sequencer, interval clock and bank groups of STATUS, from LSQ: offsets 0..19, then offset 51. -/
def lsqStatus (q : Lsq) : List Byte :=
  [byteOf q.seq.code, optByte q.seq.subPhase, optByte q.seq.heldOrigin, byteOf q.haltCause.code, byteOf q.position] ++
    le32 q.passCount ++
    [byteOf q.scale, byteOf q.direction.code, if q.intervalAuto then 0 else 1] ++
    le16 q.intervalNumber.toNat ++ le16 q.intervalPasses ++
    [byteOf q.active.code, byteOf q.bankA.state.code, byteOf q.bankB.state.code, flagByte q.swapPending,
      optByte q.seq.stepPhase]

/-- The zone group of STATUS, from the ZDU: offsets 20..27. -/
def zduStatus (s : State) : List Byte :=
  [byteOf (zoneCount s), flagByte (rezoneIsOpen s)] ++
    le16 ((s.zdu.rezone.map Rezone.sweepCount).getD 0) ++ le16 (totalOver s) ++ le16 (totalFault s)

/-- The drive links of STATUS, from ACH: offsets 33..40. -/
def achStatus (h : Ach) : List Byte := h.acts.rows.map fun r => byteOf r.link.code

/-- The gauge operation group and the scanner links of STATUS, from GSC: offsets 28..32, then 41..44. -/
def gscStatus (g : Gsc) : List Byte :=
  le16 ((g.zeroOp.map ZeroOp.pending).getD 0) ++ [flagByte g.shuntOp.isSome] ++
    le16 ((g.shuntOp.map fun o => o.gauge.val).getD 0xFFFF) ++ g.links.rows.map fun l => byteOf l.state.code

/-- The STATUS result from the owners' groups and SP's bytes (11.3). -/
def statusData (g : StatusGroups) (attention : List Byte) : List Byte :=
  g.lsq.take 20 ++ g.zdu ++ g.gsc.take 5 ++ g.ach ++ g.gsc.drop 5 ++ attention ++ g.lsq.drop 20

/-- STATUS is put to the owners of its groups (R173, R174). -/
def takeStatus (s : State) : Taken := asking { op := .status {}, place := [], waiting := [.lsq, .zdu, .ach, .gsc] } s

/-- An owner answers its groups of STATUS as its state stands, as one event (R174). -/
def answerStatus (b : Block) (s : State) (g : StatusGroups) : StatusGroups :=
  match b with
  | .lsq => { g with lsq := lsqStatus s.lsq }
  | .zdu => { g with zdu := zduStatus s }
  | .ach => { g with ach := achStatus s.ach }
  | .gsc => { g with gsc := gscStatus s.gsc }
  | .cwu => g

/-! ### Reports that come before an owner's answer to STATUS (R174) -/

/-- The blocks that raise an attention class of kind event (R175); PORT_OVERRUN is SP's own. -/
def eventRaisers : EventClass → List Block
  | .seqState => [.lsq]
  | .passDone => [.lsq]
  | .intervalClosed => [.lsq]
  | .bankEvent => [.lsq]
  | .opDone => [.zdu, .gsc]
  | .zoneDerate => [.zdu]
  | .actFault => [.ach]
  | .loopBroken => [.cwu]
  | .crackOpened => [.cwu]
  | .crackState => [.cwu]
  | .crackTableFull => [.cwu]
  | .portOverrun => []

/-- The blocks that report a condition class by its edges (R175); LINK_LOST is SP's own. -/
def condRaisers : CondClass → List Block
  | .linkLost => []
  | .anyOver => [.zdu]
  | .anyFault => [.zdu]
  | .anyAlert => [.gsc]

/-- The block that reports a link (R176). -/
def linkOwner : Link → Block
  | .drive _ => .ach
  | .scanner _ => .gsc

/-- A message is a report block `b` may have sent SP. -/
def isReportOf (b : Block) : Instr → Bool
  | .attentionEventReport c => (eventRaisers c).contains b
  | .conditionEdgeReport c _ => (condRaisers c).contains b
  | .linkReport l _ => linkOwner l == b
  | _ => false

/-- SP takes a report (R175, R176). -/
def takeSpReport : Instr → State → State
  | .attentionEventReport c, s => onSp (setLatch (eventIndex c)) s
  | .conditionEdgeReport c e, s => onSp (applyEdge c e) s
  | .linkReport l lost, s => onSp (applyLinkReport l lost) s
  | _, s => s

/-- Every report block `b` has sent reaches SP, in the order sent: a latch set by an event whose effects are read from
its owner is shown set (R174, log 31). -/
def takeReportsOf (b : Block) (s : State) : State := takeSent (isReportOf b) takeSpReport s

/-! ### Requests put to several owners (R174, R186, R189) -/

/-- The request code of a request put to several owners. -/
def GatherOp.code : GatherOp → Byte
  | .status _ => 0x01
  | .read _ => 0x11
  | .write _ => 0x12

/-- The owner's event: its groups read, its cells answered, or its claims taken, as its state stands. Its answer to STATUS
comes after the reports it has sent (R174). -/
def ownerEvent (b : Block) (op : GatherOp) (s : State) : State × GatherOp :=
  match op with
  | .status g => (takeReportsOf b s, .status (answerStatus b s g))
  | .read cells => (s, .read (answerReads b s cells))
  | .write claims => ((takeSettingClaims b claims s).1, .write (takeSettingClaims b claims s).2)

/-- The result data once every owner has answered, formed at SP. -/
def Gather.data (g : Gather) (sp : Sp) : List Byte :=
  match g.op with
  | .status groups => statusData groups (attentionBytes sp)
  | .read cells => readDataResult g.place (readsAnswered cells)
  | .write claims => writeDataResult (claimsAnswered claims) g.place

/-- SP with an owner's answer in: it waits for the others, or with all in the answer sets out for the slot. -/
def gatherOn (g : Gather) (s : State) : State :=
  if g.waiting = [] then
    postAnswer g.op.code { code := .done, data := g.data s.sp } (onSp (fun sp => { sp with gather := none }) s)
  else onSp (fun sp => { sp with gather := some g }) s

/-- An owner that has been asked answers; one that has not changes nothing (R174, R186, R189, log 7). -/
def takeOwnerAnswer (b : Block) (s : State) : State :=
  match s.sp.gather with
  | none => s
  | some g =>
    if g.waiting.contains b then
      let x := ownerEvent b g.op s
      gatherOn { g with op := x.2, waiting := g.waiting.erase b } x.1
    else s

/-! ### The answer slot (R169, R170) -/

/-- The latches, masks and condition values of a STATUS answer are read as it enters the slot (R174). -/
def freshReply (request : Byte) (sp : Sp) (r : Reply) : Reply :=
  if request = 0x01 ∧ r.code = .done then
    { r with data := r.data.take 45 ++ attentionBytes sp ++ r.data.drop 51 }
  else r

/-- The answer on its way enters the slot with the overrun flag as its mark, and the flag is cleared (R169, R170); with
none on its way nothing changes (log 20). -/
def takeAnswer (s : State) : State :=
  match s.sp.answer with
  | none => s
  | some a =>
    onSp (fun sp => { sp with
      slot := .ready { a with reply := freshReply a.request sp a.reply, overrunMark := sp.overrun }
      answer := none, overrun := false }) s

/-- An owner answers SP: its share of a request put to several, or the answer that fills the slot (R169, R174). -/
def takeAnswerOf (owner : Option Block) (s : State) : State :=
  match owner with
  | some b => takeOwnerAnswer b s
  | none => takeAnswer s

/-! ### Attention (R175 to R179) -/

/-- READ ATTENTION (R178). -/
def takeReadAttention (s : State) : Taken :=
  done (onSp clearLatches s) (le16 s.sp.latches.toNat ++ [byteOf s.sp.condValues.toNat])

/-- SP with new masks and edge modes, the line evaluated (R179). -/
def replaceMasks (masks : BitVec 16) (modes : BitVec 4) (sp : Sp) : Sp :=
  evalLine { sp with masks := masks, edgeModes := modes }

/-- SET ATTENTION (R179). -/
def takeSetAttention (params : List Byte) (s : State) : Taken :=
  match params with
  | [m0, m1, modes] =>
    if 16 ≤ modes.toNat then refuse s .range
    else done (onSp (replaceMasks (bits16 m0 m1) (BitVec.ofNat 4 modes.toNat)) s) [m0, m1, modes]
  | _ => refuse s .format

/-! ### RESTART (R180) -/

/-- SP's part of RESTART, step 1 (R180). -/
def Sp.restarted (sp : Sp) : Sp :=
  { clearLatches sp with window := none, amend := false, overrun := false, restartDone := some [] }

/-- RESTART is taken: SP's part, then the notices to the five blocks; the answer follows their parts (R180). -/
def beginRestart (s : State) : State :=
  sendAll [.restartNotice .gsc, .restartNotice .cwu, .restartNotice .ach, .restartNotice .lsq, .restartNotice .zdu]
    (onSp Sp.restarted s)

/-- RESTART (R180). -/
def takeRestart (s : State) : Taken :=
  if s.lsq.seq = .idle ∧ rezoneIsOpen s = false then (beginRestart s, none) else refuse s .state

/-- A block's part of RESTART: GSC's and CWU's; ACH, LSQ and the ZDU keep everything (R19, R39, R55, R82, R105,
R144). -/
def restartPart (b : Block) (s : State) : State :=
  match b with
  | .gsc => restartGsc s
  | .cwu => restartCwu s
  | .ach => s
  | .lsq => s
  | .zdu => s

/-- A block takes its part, and tells SP when done (R180). -/
def takeRestartNotice (b : Block) (s : State) : State := send (.restartPartDone b) (restartPart b s)

/-- A block's part is done; with all five done the RESTART is answered (R180). -/
def takePartDone (b : Block) (s : State) : State :=
  match s.sp.restartDone with
  | none => s
  | some bs =>
    if 5 ≤ (addOnce b bs).length then
      postAnswer 0x04 { code := .done } (onSp (fun sp => { sp with restartDone := none }) s)
    else onSp (fun sp => { sp with restartDone := some (addOnce b bs) }) s

/-! ### Unknown frames (R167) -/

/-- The reason a frame of no request code is refused with: its outer form comes first (R167). -/
def unknownReason (tail : List Byte) : Reason := if (frameParams tail).isSome then .unknown else .format

/-- A frame whose code is no request code (R167, R170, R191). -/
def takeUnknown (code : Byte) (tail : List Byte) (s : State) : State :=
  if slotWorking s then discardRequest s
  else postTaken code (refuse (endAmend (occupySlot code s)) (unknownReason tail))

/-! ### The reset line (R181, R126) -/

/-- The reset line is asserted: every block at its defaults; nothing is in transit (R18, R39, R55, R82, R104, R123,
R143, R166, R181). The waiting commands, the units already sent and the loop inputs are not the part's records. -/
def takeDeviceReset (s : State) : State :=
  { State.reset with
    pending := s.pending, sent := s.sent, loopInputs := s.loopInputs, resetHeld := true, cwu := Cwu.reset s.loopInputs }

/-- Every line-closed flag is set from its loop input (R126). -/
def readLoopInputs (s : State) : State :=
  onCwu (fun w => { w with loops :=
    (indices Config.loops).foldl (fun t l => t.set l { t.get l with closed := s.loopInputs.get l }) w.loops }) s

/-- The reset line is released (R126, R181); a release of a line not held changes nothing. -/
def takeResetRelease (s : State) : State :=
  if s.resetHeld then readLoopInputs { s with resetHeld := false } else s

/-! ### Meanings -/

/-- FETCH (R171). -/
def execFetch (clocked : Nat) (s : State) : Result := .next (unlessHeld (takeFetch clocked) s)
/-- STATUS (R173). -/
def execStatus (tail : List Byte) (s : State) : Result := hostRequest 0x01 (noParams takeStatus) tail s
/-- READ ATTENTION (R178). -/
def execReadAttention (tail : List Byte) (s : State) : Result := hostRequest 0x02 (noParams takeReadAttention) tail s
/-- SET ATTENTION (R179). -/
def execSetAttention (tail : List Byte) (s : State) : Result := hostRequest 0x03 takeSetAttention tail s
/-- RESTART (R180). -/
def execRestart (tail : List Byte) (s : State) : Result := hostRequest 0x04 (noParams takeRestart) tail s
/-- A frame of no request code (R167). -/
def execUnknown (code : Byte) (tail : List Byte) (s : State) : Result := .next (unlessHeld (takeUnknown code tail) s)
/-- An owner's answer reaches SP: its share of a request put to several, or by itself the answer that fills the slot
(R169, R174). -/
def execAnswerToSlot (s : State) (owner : Option Block := none) : Result :=
  onArrival (.answerToSlot owner) (takeAnswerOf owner) s
/-- An event report (R175). -/
def execAttentionEventReport (c : EventClass) (s : State) : Result :=
  onArrival (.attentionEventReport c) (onSp (setLatch (eventIndex c))) s
/-- A condition edge (R175). -/
def execConditionEdgeReport (c : CondClass) (e : Edge) (s : State) : Result :=
  onArrival (.conditionEdgeReport c e) (onSp (applyEdge c e)) s
/-- A link report (R176). -/
def execLinkReport (l : Link) (lost : Bool) (s : State) : Result :=
  onArrival (.linkReport l lost) (onSp (applyLinkReport l lost)) s
/-- A block's part of RESTART (R180). -/
def execRestartNotice (b : Block) (s : State) : Result := onArrival (.restartNotice b) (takeRestartNotice b) s
/-- A block's restart-done notice (R180). -/
def execRestartPartDone (b : Block) (s : State) : Result := onArrival (.restartPartDone b) (takePartDone b) s
/-- The reset line is asserted (R181). -/
def execDeviceReset (s : State) : Result := .next (takeDeviceReset s)
/-- The reset line is released (R181). -/
def execResetRelease (s : State) : Result := .next (takeResetRelease s)

end Sys2Proof.Machine
end

