-- ==== Sys2Proof/Machine/Dispatch.lean ====
section
/-! DEFINITION. Machine/Dispatch.lean: the meaning of each command, one arm per constructor of Instr. -/
namespace Sys2Proof.Machine

def exec (i : Instr) (s : State) : Host.Outcome State Fault Refusal :=
  match i with
  | .fetch clocked => Sys2Proof.Machine.execFetch clocked s
  | .status tail => Sys2Proof.Machine.execStatus tail s
  | .readAttention tail => Sys2Proof.Machine.execReadAttention tail s
  | .setAttention tail => Sys2Proof.Machine.execSetAttention tail s
  | .restart tail => Sys2Proof.Machine.execRestart tail s
  | .setWindow tail => Sys2Proof.Machine.execSetWindow tail s
  | .readData tail => Sys2Proof.Machine.execReadData tail s
  | .writeData tail => Sys2Proof.Machine.execWriteData tail s
  | .amendOn tail => Sys2Proof.Machine.execAmendOn tail s
  | .amendOff tail => Sys2Proof.Machine.execAmendOff tail s
  | .find tail => Sys2Proof.Machine.execFind tail s
  | .arm tail => Sys2Proof.Machine.execArm tail s
  | .start tail => Sys2Proof.Machine.execStart tail s
  | .halt tail => Sys2Proof.Machine.execHalt tail s
  | .stopNow tail => Sys2Proof.Machine.execStopNow tail s
  | .resume tail => Sys2Proof.Machine.execResume tail s
  | .rest tail => Sys2Proof.Machine.execRest tail s
  | .disarm tail => Sys2Proof.Machine.execDisarm tail s
  | .setScale tail => Sys2Proof.Machine.execSetScale tail s
  | .trimUp tail => Sys2Proof.Machine.execTrimUp tail s
  | .trimDown tail => Sys2Proof.Machine.execTrimDown tail s
  | .closeInterval tail => Sys2Proof.Machine.execCloseInterval tail s
  | .clearPasses tail => Sys2Proof.Machine.execClearPasses tail s
  | .rezone tail => Sys2Proof.Machine.execRezone tail s
  | .setZoneDerate tail => Sys2Proof.Machine.execSetZoneDerate tail s
  | .enableActuator tail => Sys2Proof.Machine.execEnableActuator tail s
  | .disableActuator tail => Sys2Proof.Machine.execDisableActuator tail s
  | .clearFault tail => Sys2Proof.Machine.execClearFault tail s
  | .commitBank tail => Sys2Proof.Machine.execCommitBank tail s
  | .swapBank tail => Sys2Proof.Machine.execSwapBank tail s
  | .cancelSwap tail => Sys2Proof.Machine.execCancelSwap tail s
  | .openGauge tail => Sys2Proof.Machine.execOpenGauge tail s
  | .retireGauge tail => Sys2Proof.Machine.execRetireGauge tail s
  | .suspendGauge tail => Sys2Proof.Machine.execSuspendGauge tail s
  | .watchGauge tail => Sys2Proof.Machine.execWatchGauge tail s
  | .zero tail => Sys2Proof.Machine.execZero tail s
  | .shunt tail => Sys2Proof.Machine.execShunt tail s
  | .enableLoop tail => Sys2Proof.Machine.execEnableLoop tail s
  | .rearmLoop tail => Sys2Proof.Machine.execRearmLoop tail s
  | .disableLoop tail => Sys2Proof.Machine.execDisableLoop tail s
  | .openCrack tail => Sys2Proof.Machine.execOpenCrack tail s
  | .confirmCrack tail => Sys2Proof.Machine.execConfirmCrack tail s
  | .arrestCrack tail => Sys2Proof.Machine.execArrestCrack tail s
  | .retireCrack tail => Sys2Proof.Machine.execRetireCrack tail s
  | .unknown code tail => Sys2Proof.Machine.execUnknown code tail s
  | .answerToSlot owner => Sys2Proof.Machine.execAnswerToSlot s owner
  | .attentionEventReport c => Sys2Proof.Machine.execAttentionEventReport c s
  | .conditionEdgeReport c e => Sys2Proof.Machine.execConditionEdgeReport c e s
  | .linkReport l lost => Sys2Proof.Machine.execLinkReport l lost s
  | .restartNotice b => Sys2Proof.Machine.execRestartNotice b s
  | .restartPartDone b => Sys2Proof.Machine.execRestartPartDone b s
  | .overEnter z => Sys2Proof.Machine.execOverEnter z s
  | .overLeave z => Sys2Proof.Machine.execOverLeave z s
  | .faultEnter z => Sys2Proof.Machine.execFaultEnter z s
  | .faultLeave z => Sys2Proof.Machine.execFaultLeave z s
  | .crackDerate z value count => Sys2Proof.Machine.execCrackDerate z value count s
  | .loadMask set => Sys2Proof.Machine.execLoadMask set s
  | .derateFall z => Sys2Proof.Machine.execDerateFall z s
  | .strainTrip => Sys2Proof.Machine.execStrainTrip s
  | .crackGrowth => Sys2Proof.Machine.execCrackGrowth s
  | .crackTableFull => Sys2Proof.Machine.execCrackTableFull s
  | .rezoneStateNotice isOpen => Sys2Proof.Machine.execRezoneStateNotice isOpen s
  | .setCommand a target ramp => Sys2Proof.Machine.execSetCommand a target ramp s
  | .holdCommand a => Sys2Proof.Machine.execHoldCommand a s
  | .freeCommand a => Sys2Proof.Machine.execFreeCommand a s
  | .settled a tag => Sys2Proof.Machine.execSettled a tag s
  | .actFault a cause => Sys2Proof.Machine.execActFault a cause s
  | .freed a => Sys2Proof.Machine.execFreed a s
  | .dwellTimerExpiry => Sys2Proof.Machine.execDwellTimerExpiry s
  | .rezoneSweep o => Sys2Proof.Machine.execRezoneSweep o s
  | .sweepRecord o => Sys2Proof.Machine.execSweepRecord o s
  | .swept o => Sys2Proof.Machine.execSwept o s
  | .sweepDone o => Sys2Proof.Machine.execSweepDone o s
  | .report a unit => Sys2Proof.Machine.execReport a unit s
  | .reportTimerExpiry a => Sys2Proof.Machine.execReportTimerExpiry a s
  | .settleTimerExpiry a => Sys2Proof.Machine.execSettleTimerExpiry a s
  | .freeTimerExpiry a => Sys2Proof.Machine.execFreeTimerExpiry a s
  | .scanFrame k unit => Sys2Proof.Machine.execScanFrame k unit s
  | .reading k channel q value => Sys2Proof.Machine.execReading k channel q value s
  | .scannerLinkTimerExpiry k => Sys2Proof.Machine.execScannerLinkTimerExpiry k s
  | .gscIntervalClose n => Sys2Proof.Machine.execGscIntervalClose n s
  | .loopLineChange l closed => Sys2Proof.Machine.execLoopLineChange l closed s
  | .confirmTimerExpiry l => Sys2Proof.Machine.execConfirmTimerExpiry l s
  | .hit unit => Sys2Proof.Machine.execHit unit s
  | .cwuIntervalClose n => Sys2Proof.Machine.execCwuIntervalClose n s
  | .deviceReset => Sys2Proof.Machine.execDeviceReset s
  | .resetRelease => Sys2Proof.Machine.execResetRelease s

end Sys2Proof.Machine
end

