-- ==== Sys2Proof/Machine/Step.lean ====
section
/-! DEFINITION. Machine/Step.lean: one step of the part, and the command a table word puts in front. -/
namespace Sys2Proof.Machine

/-- One step: the command at the front of the queue is taken, on the state with the queue's rest; with none waiting, the
oldest message in transit arrives; with none of either, the part idles (log 2, log 3). -/
def step (s : State) : Host.Outcome State Fault Refusal :=
  match s.pending with
  | c :: rest => exec c { s with pending := rest }
  | [] =>
    match s.transit with
    | m :: _ => exec m s
    | [] => .next s

/-- The state with the command a table word spells put at the front of its queue; unchanged where it spells none. -/
def State.withFetchWord (s : State) (nbits w : Nat) : State :=
  match decodeTableWord nbits w with
  | some c => { s with pending := c :: s.pending }
  | none => s

end Sys2Proof.Machine
end

