-- ==== Sys2Proof/Safety.lean ====
section
/-! DEFINITION. Safety.lean: the words claims about runs are made in: when a request is taken, the state an answered
request leaves, the parameter lengths of the requests, and the invariants. -/
namespace Sys2Proof.Machine

/-! ### Requests -/

/-- A request arriving now is taken into the slot: the reset line is released and the slot is not WORKING (R169, R170,
R181). -/
def PortFree (s : State) : Prop := s.resetHeld = false ∧ slotWorking s = false

/-- The requests that keep AMEND in force: READ DATA, WRITE DATA, AMEND ON (R191). -/
def keepsAmend (code : Byte) : Bool := code == 0x11 || code == 0x12 || code == 0x13

/-- The state `t` of the owners with request `code` in the slot and the answer `r` to it on its way (R169). -/
def answered (code : Byte) (r : Reply) (t : State) : State :=
  { t with
    sp := { t.sp with
      slot := .working code, answer := some { request := code, reply := r },
      amend := if keepsAmend code then t.sp.amend else false }
    transit := t.transit ++ [.answerToSlot none] }

/-- The state an owner takes request `code` in: the slot is WORKING with it, and AMEND has ended unless the request keeps
it (R169, R191). -/
def atOwner (code : Byte) (s : State) : State :=
  { s with sp := { s.sp with slot := .working code, amend := if keepsAmend code then s.sp.amend else false } }

/-- The owner's state `t`, with its answer to request `code` on its way to the slot (R169). -/
def replied (code : Byte) (r : Reply) (t : State) : State :=
  { t with
    sp := { t.sp with answer := some { request := code, reply := r } }, transit := t.transit ++ [.answerToSlot none] }

/-- SP has put a request to several owners: each is asked (R174, R186, R189). -/
def asked (g : Gather) (t : State) : State :=
  { t with
    sp := { t.sp with gather := some g }, transit := t.transit ++ g.waiting.map fun b => .answerToSlot (some b) }

/-- An owner's answer is in at SP: while others are waited for SP holds what it has; with all in, the answer with
`data` sets out for the slot (R174, R186, R189). -/
def gathered (g : Gather) (data : List Byte) (t : State) : State :=
  if g.waiting = [] then
    { t with
      sp := { t.sp with
        gather := none, answer := some { request := g.op.code, reply := { code := .done, data := data } } }
      transit := t.transit ++ [.answerToSlot none] }
  else { t with sp := { t.sp with gather := some g } }

/-- DONE with result data. -/
def doneWith (data : List Byte) : Reply := { code := .done, data := data }

/-- STARTED. -/
def startedReply : Reply := { code := .started }

/-- REFUSED for a reason. -/
def refusedFor (r : Reason) : Reply := { code := .refused, reason := r }

/-- The parameters a request carries have the length the table of 11.2 asks for (R195); a REZONE carrying an n of 0 is
held to no length (R13). -/
def lengthRight (code : Byte) (params : List Byte) : Bool :=
  match code.toNat with
  | 0x03 => params.length == 3
  | 0x10 => params.length == 12
  | 0x11 => params.length == 1
  | 0x12 => decide (4 ≤ params.length) && params.length % 4 == 0
  | 0x15 => params.length == 12
  | 0x28 => params.length == 1
  | 0x30 => decide (params ≠ []) && (params.headD 0 == 0 || params.length == 1 + 2 * ((params.headD 0).toNat - 1))
  | 0x31 => params.length == 2
  | 0x40 => params.length == 1
  | 0x41 => params.length == 1
  | 0x42 => params.length == 1
  | 0x60 => params.length == 6
  | 0x61 => params.length == 2
  | 0x62 => params.length == 2
  | 0x63 => params.length == 2
  | 0x64 => params.length == 2
  | 0x65 => params.length == 2
  | 0x70 => params.length == 1
  | 0x71 => params.length == 1
  | 0x72 => params.length == 1
  | 0x80 => params.length == 8
  | 0x81 => params.length == 1
  | 0x82 => params.length == 1
  | 0x83 => params.length == 1
  | _ => params.length == 0

/-! ### The sequencer's events, whole -/

/-- The SET drive commands of a list of targets, with one ramp time. -/
def setsOf (ramp : Nat) (ts : List (Fin Config.actuators × Int)) : List Instr := ts.map fun x => .setCommand x.1 x.2 ramp

/-- The awaited tags with those of the actuators commanded emptied, until their SETs are answered (R57, log 8). -/
def awaitedAfter (ts : List (Fin Config.actuators × Int)) (w : Table (Option Tag) Config.actuators) :
    Table (Option Tag) Config.actuators :=
  ts.foldl (fun w x => w.set x.1 none) w

/-- The step at the position has started (R62): RAMP, and a SET for each line actuator not in the fault set, with its
target and the active bank's ramp time. -/
def stepStarted (s : State) : State :=
  { s with
    lsq := { s.lsq with seq := .running .ramp, awaited := awaitedAfter (stepTargets s) s.lsq.awaited }
    transit := s.transit ++ setsOf (activeBank s).ramp (stepTargets s) }

/-- The rest ramp has started (R72): HALTING-REST, an empty load mask, the re-hold set empty, a rest-load SET for each line
actuator not in the fault set, SEQ_STATE; with no such actuator HALTED follows, with its own SEQ_STATE. -/
def restRamped (s : State) : State :=
  { s with
    lsq := { s.lsq with
      seq := if restTargets s = [] then .halted else .haltingRest
      reholdSet := 0, awaited := awaitedAfter (restTargets s) s.lsq.awaited }
    transit := s.transit ++ [.loadMask 0] ++ setsOf s.lsq.restRamp (restTargets s) ++
      List.replicate (if restTargets s = [] then 2 else 1) (.attentionEventReport .seqState) }

/-- An immediate halt has been taken (R73, R74): the dwell timer cancelled, no tag awaited, HOLD commanded for every line
actuator not in the fault set, HELD with its cause and origin, SEQ_STATE. -/
def heldNow (c : HaltCause) (o : HeldOrigin) (s : State) : State :=
  { s with
    lsq := { s.lsq with seq := .held o, haltCause := c, dwellTimer := none, awaited := Table.fill _ none }
    transit := s.transit ++ ((lineActs s).filter fun a => !isFaulted s a).map .holdCommand ++
      [.attentionEventReport .seqState] }

/-- DISARMING has been entered (R78): no tag awaited, the re-hold and freed sets empty, an empty load mask, FREE for every
line actuator, SEQ_STATE. -/
def disarmingNow (s : State) : State :=
  { s with
    lsq := { s.lsq with seq := .disarming, awaited := Table.fill _ none, reholdSet := 0, freedSet := 0 }
    transit := s.transit ++ [.loadMask 0] ++ (lineActs s).map .freeCommand ++ [.attentionEventReport .seqState] }

/-! ### Gauge and crack events, whole -/

/-- Gauge record `i` has become `g`, with the claims of R85, unless it waits for the sweep (R86). -/
def gaugeMoved (i : Fin Config.gauges) (g : Gauge) (s : State) : State :=
  { s with
    gsc := { s.gsc with gauges := s.gsc.gauges.set i g }
    transit := s.transit ++ if s.gsc.sweep.passed i.val then claimsOf (gauge i s) g else [] }

/-- The event's end `t`, with the ANY_ALERT edge found against its start `s` (R103). -/
def withAlertEdge (s t : State) : State :=
  { t with transit := t.transit ++
      if anyAlert s = anyAlert t then [] else [.conditionEdgeReport .anyAlert (if anyAlert t then .entry else .exit)] }

/-- A crack event's end: one attention report for each class, one claim for each zone touched, each over the records as the
event leaves them, and the notices to LSQ (R146). -/
def crackEnded (classes : List EventClass) (zones : List Nat) (notices : List Instr) (s : State) : State :=
  { s with transit := s.transit ++ classes.map .attentionEventReport ++ zones.map (crackClaim s) ++ notices }

/-- Crack record `i` replaced by `r`. -/
def crackPut (i : Fin Config.cracks) (r : Crack) (s : State) : State :=
  { s with cwu := { s.cwu with cracks := s.cwu.cracks.set i r } }

/-- The zone of an event at record `i`, unless the record waits for the sweep (R165). -/
def touched (s : State) (i : Fin Config.cracks) (z : Nat) : List Nat := if crackPassed s i.val then [z] else []

/-! ### Invariants -/

/-- The attention line is asserted exactly while some latch is set with its mask clear; while the reset line is held it is
released and no latch is set (R177, R181). -/
def AttentionTrue (s : State) : Prop :=
  s.sp.attnLine = (!s.resetHeld && lineAsserted s.sp.latches s.sp.masks) ∧ (s.resetHeld = true → s.sp.latches = 0)

/-- Outside a REZONE the effective derate of every zone in use is the least of its crack, gauge and manual derates
(R8). -/
def DeratesTrue (s : State) : Prop :=
  s.zdu.rezone = none → ∀ z, z < zoneCount s →
    (zoneEntry z s).effective = min (zoneEntry z s).crackDerate (min (zoneEntry z s).gaugeDerate (zoneEntry z s).manual)

/-- The boundary list: at most 31 stations, each in 1..65000, strictly ascending (R1). -/
def BoundariesTrue (s : State) : Prop :=
  s.zdu.boundaries.length ≤ 31 ∧ (∀ b ∈ s.zdu.boundaries, 1 ≤ b ∧ b ≤ 65000) ∧ s.zdu.boundaries.Pairwise (· < ·)

/-- The pending hit list: at most 32 entries, no two from one sensor at one time (R138). -/
def HitsTrue (s : State) : Prop :=
  s.cwu.hits.length ≤ 32 ∧ s.cwu.hits.Pairwise fun h e => ¬(h.sensor = e.sensor ∧ h.time = e.time)

/-- The channel map holds, for each key, the one open gauge record with that key (R84). -/
def KeysTrue (s : State) : Prop :=
  (∀ i, (gauge i s).state ≠ .vacant → gaugeAt (gauge i s).scanner (gauge i s).channel.val s = some i) ∧
    ∀ k ch i, gaugeAt k ch s = some i →
      (gauge i s).state ≠ .vacant ∧ (gauge i s).scanner = k ∧ (gauge i s).channel.val = ch

/-- The binding of loops and cracks: a loop is in a crack's list exactly when that crack is its bound crack, so in at most
one list; a bound loop is BROKEN; no list names a loop twice or more than 8 loops; a VACANT or SUSPECT record lists
none (R132, R149, R152). A confirm timer runs in OPENING alone (R126), so no listed loop breaks again. -/
def BindingsTrue (s : State) : Prop :=
  (∀ l i, l ∈ (crack i s).loops ↔ (loop l s).bound = some i) ∧
  (∀ l i, (loop l s).bound = some i → (loop l s).state = .broken) ∧
  (∀ i, (crack i s).loops.Nodup ∧ (crack i s).loops.length ≤ 8 ∧
    ((crack i s).state = .vacant ∨ (crack i s).state = .suspect → (crack i s).loops = [])) ∧
  ∀ l, (loop l s).timer ≠ none → (loop l s).state = .opening

/-- The pass count and the scale stay in their ranges (R56, R66). -/
def SequencerInRange (s : State) : Prop := s.lsq.scale ≤ 100 ∧ s.lsq.passCount ≤ 4294967295

end Sys2Proof.Machine
end

