-- ==== Sys2Proof/WellFormed.lean ====
section
/-! DEFINITION. WellFormed.lean: which commands the spec's senders can send. -/
namespace Sys2Proof

/-- The request codes of the part (11.2). -/
def requestCodes : List Nat :=
  [0x00, 0x01, 0x02, 0x03, 0x04, 0x10, 0x11, 0x12, 0x13, 0x14, 0x15,
   0x21, 0x22, 0x23, 0x24, 0x25, 0x26, 0x27, 0x28, 0x29, 0x2A, 0x2B, 0x2C] ++
  [0x30, 0x31, 0x40, 0x41, 0x42, 0x50, 0x51, 0x52, 0x60, 0x61, 0x62, 0x63, 0x64, 0x65,
   0x70, 0x71, 0x72, 0x80, 0x81, 0x82, 0x83]

/-- A zone number some boundary list can give (R1): below 32. -/
def zoneOk (z : Nat) : Bool := z < Config.zones

/-- A command a sender of the spec can send: an UNKNOWN frame names no request code (R167); a block reports only its
own condition classes, LINK_LOST being SP's (R175, R176); zones are below 32 and derates and counts in range (R3, R7);
a SET command's target and ramp are in range (R20); a reset or a link message of any bytes is well formed. -/
def Instr.wf : Instr → Bool
  | .unknown code _ => !requestCodes.contains code.toNat
  | .conditionEdgeReport c _ => c != .linkLost
  | .overEnter z => zoneOk z
  | .overLeave z => zoneOk z
  | .faultEnter z => zoneOk z
  | .faultLeave z => zoneOk z
  | .crackDerate z value count => zoneOk z && decide (value ≤ 100) && decide (count ≤ Config.cracks)
  | .derateFall z => zoneOk z
  | .setCommand _ target ramp => decide (-32000 ≤ target) && decide (target ≤ 32000) && decide (ramp ≤ 30000)
  | .attentionEventReport c => c != .portOverrun
  | .fetch _ => true
  | .status _ => true
  | .readAttention _ => true
  | .setAttention _ => true
  | .restart _ => true
  | .setWindow _ => true
  | .readData _ => true
  | .writeData _ => true
  | .amendOn _ => true
  | .amendOff _ => true
  | .find _ => true
  | .arm _ => true
  | .start _ => true
  | .halt _ => true
  | .stopNow _ => true
  | .resume _ => true
  | .rest _ => true
  | .disarm _ => true
  | .setScale _ => true
  | .trimUp _ => true
  | .trimDown _ => true
  | .closeInterval _ => true
  | .clearPasses _ => true
  | .rezone _ => true
  | .setZoneDerate _ => true
  | .enableActuator _ => true
  | .disableActuator _ => true
  | .clearFault _ => true
  | .commitBank _ => true
  | .swapBank _ => true
  | .cancelSwap _ => true
  | .openGauge _ => true
  | .retireGauge _ => true
  | .suspendGauge _ => true
  | .watchGauge _ => true
  | .zero _ => true
  | .shunt _ => true
  | .enableLoop _ => true
  | .rearmLoop _ => true
  | .disableLoop _ => true
  | .openCrack _ => true
  | .confirmCrack _ => true
  | .arrestCrack _ => true
  | .retireCrack _ => true
  | .answerToSlot _ => true
  | .linkReport _ _ => true
  | .restartNotice _ => true
  | .restartPartDone _ => true
  | .loadMask _ => true
  | .strainTrip => true
  | .crackGrowth => true
  | .crackTableFull => true
  | .rezoneStateNotice _ => true
  | .holdCommand _ => true
  | .freeCommand _ => true
  | .settled _ _ => true
  | .actFault _ _ => true
  | .freed _ => true
  | .dwellTimerExpiry => true
  | .rezoneSweep _ => true
  | .sweepRecord _ => true
  | .swept _ => true
  | .sweepDone _ => true
  | .report _ _ => true
  | .reportTimerExpiry _ => true
  | .settleTimerExpiry _ => true
  | .freeTimerExpiry _ => true
  | .scanFrame _ _ => true
  | .reading _ _ _ _ => true
  | .scannerLinkTimerExpiry _ => true
  | .gscIntervalClose _ => true
  | .loopLineChange _ _ => true
  | .confirmTimerExpiry _ => true
  | .hit _ => true
  | .cwuIntervalClose _ => true
  | .deviceReset => true
  | .resetRelease => true

end Sys2Proof
end

