-- ==== Sys2Proof/Certificates/Slice0/Obligations.lean ====
section
/-! DEFINITION. Certificates/Slice0/Obligations.lean: the statements for the provers, by chapter of the spec. -/
open Sys2Proof Sys2Proof.Machine

/-! ### The queue, the reset line and reset (chapters 2, 9, 11) -/

/-- A step takes the command at the front of the queue: it is exec of that command on the state with the queue's rest.
With no command waiting a step delivers the oldest message in transit, and with none in transit it idles: the model's
choice (logs 2 and 3). -/
def Obligations.StepTakesTheFrontCommand : Prop :=
  (∀ (c : Instr) (s : State), step { s with pending := c :: s.pending } = exec c s) ∧
  (∀ s : State, s.pending = [] →
    (∀ m ms, s.transit = m :: ms → step s = exec m s) ∧ (s.transit = [] → step s = .next s))

/-- Every command answers a next state in every state, with the rest of the queue as it stood: the part refuses and
discards by answers and by doing nothing, and never stops. -/
def Obligations.EveryCommandAnswersANextState : Prop :=
  ∀ (c : Instr) (s : State), ∃ t, exec c s = .next t ∧ t.pending = s.pending

/-- While the reset line is held a request, a unit, a message or an expiry changes nothing; a loop input still moves
its level. Asserting the reset line puts every block at its defaults, releases the attention line and drops what is in
transit; releasing it sets every line-closed flag from its input and changes nothing else. That the queue and the
units sent outlast a reset is the model's choice (log 19). -/
def Obligations.ResetLine : Prop :=
  ((∀ (c : Instr) (s : State), s.resetHeld = true → c ≠ .deviceReset → c ≠ .resetRelease →
      (∀ l b, c ≠ .loopLineChange l b) → exec c s = .next s) ∧
    ∀ (l : Fin Config.loops) (b : Bool) (s : State), s.resetHeld = true →
      exec (.loopLineChange l b) s = .next { s with loopInputs := s.loopInputs.set l b }) ∧
  ((∀ s : State, exec .deviceReset s = .next { State.reset with
      pending := s.pending, sent := s.sent, loopInputs := s.loopInputs, resetHeld := true
      cwu := { State.reset.cwu with loops := s.loopInputs.map fun c => { closed := c } } }) ∧
  (∀ s : State, s.resetHeld = true → ∃ t, exec .resetRelease s = .next t ∧
      t = { s with resetHeld := false, cwu := { s.cwu with loops := t.cwu.loops } } ∧
      ∀ l, t.cwu.loops.get l = { s.cwu.loops.get l with closed := s.loopInputs.get l }) ∧
  ∀ s : State, s.resetHeld = false → exec .resetRelease s = .next s)

/-- The values device reset leaves, block by block, field by field, and the invariants there. That the loop inputs are
open is the model's choice (log 6). -/
def Obligations.ResetValues : Prop :=
  let s := State.reset
  let limits : LimitSet := { upper := 32000, lower := -32000, alertPct := 80, hyst := 20, declare := 3 }
  let noInterval : GaugeInterval := { exceed := 0, max := none, min := none, number := 0 }
  let emptyBank : Bank :=
    { len := 0, cells := Table.fill 16 0, bed := 0, lead := 0, trail := 0, endCount := 0, ends := Table.fill 14 0,
      ramp := 0, dwell := 0, dir := .forward, shuttle := false, target := 0, state := .empty }
  (s.sp.slot = .empty ∧ s.sp.overrun = false ∧ s.sp.latches = 0 ∧ s.sp.masks = 0xFFFF ∧ s.sp.edgeModes = 0 ∧
    s.sp.condValues = 0 ∧ s.sp.lostLinks = 0 ∧ s.sp.attnLine = false ∧ s.sp.window = none ∧ s.sp.amend = false ∧
    s.sp.answer = none ∧ s.sp.restartDone = none ∧ s.sp.gather = none) ∧
  (zoneCount s = 1 ∧ s.zdu.boundaries = [] ∧ s.zdu.tripCount = 4 ∧ s.zdu.tripArmed = true ∧ s.zdu.rezone = none ∧
    s.zdu.anyOver = false ∧ s.zdu.anyFault = false ∧
    ∀ z, zoneEntry z s = { manual := 100, overDerate := 70, crackDerate := 100, effective := 100, overCount := 0,
                            faultCount := 0, crackCount := 0, loadFlag := false }) ∧
  (s.ach.reportTimeout = 20 ∧ s.ach.freeTime = 30000 ∧ s.ach.sweep = .none ∧
    ∀ a, act a s =
      { station := 0, zone := 0, state := .off, compLimit := 0, tensLimit := 0, restLoad := 0, followLimit := 100,
        settleAllow := 1000, strokeMin := -32000, strokeMax := 32000, lastTarget := 0, lastRamp := 0, lastTag := 0,
        repForce := 0, repStroke := 0, repStatus := none, repEcho := 0, link := .silent, followRun := 0,
        settledMark := false, freeWait := false, holdOwed := false, settleTimer := none, reportTimer := none, freeTimer := none }) ∧
  (s.lsq.seq = .idle ∧ s.lsq.position = 0 ∧ s.lsq.passCount = 0 ∧ s.lsq.haltCause = .none ∧ s.lsq.scale = 100 ∧
    s.lsq.faultSet = 0 ∧ s.lsq.reholdSet = 0 ∧ s.lsq.freedSet = 0 ∧ (∀ a, s.lsq.awaited.get a = none) ∧
    (∀ a, s.lsq.commanded.get a = 0) ∧ s.lsq.line = none ∧ s.lsq.direction = .forward ∧ s.lsq.swapPending = false ∧
    s.lsq.active = .a ∧ s.lsq.bankA = emptyBank ∧ s.lsq.bankB = emptyBank ∧ s.lsq.dwellTimer = none ∧
    s.lsq.intervalAuto = true ∧ s.lsq.intervalLen = 10 ∧ s.lsq.intervalNumber = 0 ∧ s.lsq.intervalPasses = 0 ∧
    s.lsq.restRamp = 2000 ∧ s.lsq.derateRamp = 500 ∧ s.lsq.rezoneOpen = false) ∧
  (s.gsc.linkTimeout = 500 ∧ s.gsc.interval = 0 ∧ s.gsc.zeroOp = none ∧ s.gsc.shuntOp = none ∧ s.gsc.lastZeroed = 0 ∧
    s.gsc.lastSkipped = 0 ∧ s.gsc.lastShuntGauge = 0 ∧ s.gsc.lastShuntOutcome = .none ∧ s.gsc.sweep = .none ∧
    (∀ k, scannerLink k s = { state := .silent, timer := none }) ∧ (∀ n, s.gsc.chanMap.getD n none = none) ∧
    ∀ i, gauge i s =
      { state := .vacant, scanner := 0, channel := 0, station := 0, zone := 0, overHeld := false, zero := 0
        zeroPending := false, shuntPending := false, setA := limits, setB := limits, overRun := 0, clearRun := 0
        lastValue := 0, lastQuality := none, lastGood := none, live := noInterval, held := noInterval
        shuntStep := 500, shuntTol := 50 }) ∧
  (s.cwu.hits = [] ∧ s.cwu.waveSpeed = 1024 ∧ s.cwu.margin = 20 ∧ s.cwu.sigAmp = 45 ∧ s.cwu.confirmRun = 3 ∧
    s.cwu.lapseRun = 8 ∧ s.cwu.threshold = 5 ∧ s.cwu.joinDistance = 300 ∧ s.cwu.confirmDerate = 80 ∧
    s.cwu.arrestDerate = 100 ∧ s.cwu.growthLimit = 0 ∧ s.cwu.sweep = .none ∧
    (∀ z, s.cwu.tallies.get z = { count := 0, sum := 0, min := none, max := none }) ∧
    (∀ i, crack i s =
      { state := .vacant, origin := none, seed := 0, zone := 0, lo := 0, hi := 0, confWidth := 0, openedPass := 0
        derate := 100, activeRun := 0, quietRun := 0, hits := 0, loops := [], growthHalt := false, note := 0 }) ∧
    (∀ c, sensor c s = { station := 0, zone := 0, enabled := false }) ∧
    ∀ l, loop l s =
      { station := 0, zone := 0, state := .unused, confirmTime := 200, closed := s.loopInputs.get l, bound := none
        timer := none }) ∧
  (∀ l, s.loopInputs.get l = false) ∧
  AttentionTrue s ∧ DeratesTrue s ∧ BoundariesTrue s ∧ HitsTrue s ∧ KeysTrue s ∧ SequencerInRange s ∧ BindingsTrue s

/-! ### The station port (chapter 9, 11.1) -/

/-- FETCH clocks out the frame of the slot's state, 00H past its end, and changes nothing else. The answer on its way
enters the slot with the overrun flag as its mark, and the flag is cleared; an answer to STATUS carries the latches,
masks, edge modes and condition values as they stand at that moment. With no answer on its way the slot stands (the
model's choice, log 20). A request arrival other than FETCH that finds the slot WORKING is discarded: it sets the overrun
flag and the PORT_OVERRUN latch, drives the line by it, and changes nothing else, AMEND included. The answer codes and the
reasons are those of 11.5. -/
def Obligations.AnswerSlot : Prop :=
  (∀ (n : Nat) (s : State), s.resetHeld = false →
    (s.sp.slot = .empty →
      exec (.fetch n) s = .next { s with sp := { s.sp with
        dataOut := (([0, 4, 0, 0, 0] : List Byte) ++ List.replicate n 0).take n } }) ∧
    (∀ code, s.sp.slot = .working code →
      exec (.fetch n) s = .next { s with sp := { s.sp with
        dataOut := (([code, 3, 0, 0, 0] : List Byte) ++ List.replicate n 0).take n } }) ∧
    ∀ a, s.sp.slot = .ready a →
      exec (.fetch n) s = .next { s with sp := { s.sp with
        dataOut := (([a.request, a.reply.code.code, if a.overrunMark then 1 else 0, a.reply.reason.code,
          byteOf a.reply.data.length] : List Byte) ++ a.reply.data ++ List.replicate n 0).take n } }) ∧
  (∀ (s : State) (a : Answer), s.resetHeld = false → s.sp.answer = some a →
    (a.request ≠ 0x01 ∨ a.reply.code ≠ .done → exec (.answerToSlot none) s = .next { s with
      transit := s.transit.erase (.answerToSlot none)
      sp := { s.sp with slot := .ready { a with overrunMark := s.sp.overrun }, answer := none, overrun := false } }) ∧
    (a.request = 0x01 → a.reply.code = .done → exec (.answerToSlot none) s = .next { s with
      transit := s.transit.erase (.answerToSlot none)
      sp := { s.sp with
        slot := .ready { a with
          overrunMark := s.sp.overrun
          reply := { a.reply with data := a.reply.data.take 45 ++
            (le16 s.sp.latches.toNat ++ le16 s.sp.masks.toNat ++
              [byteOf s.sp.edgeModes.toNat, byteOf s.sp.condValues.toNat]) ++ a.reply.data.drop 51 } }
        answer := none, overrun := false } })) ∧
  (∀ s : State, s.resetHeld = false → s.sp.answer = none →
    exec (.answerToSlot none) s = .next { s with transit := s.transit.erase (.answerToSlot none) }) ∧
  (∀ (c : Instr) (code : Byte) (tail : List Byte) (s : State), encodeFrame c = some (code :: tail) → code ≠ 0x00 →
    s.resetHeld = false → slotWorking s = true →
    exec c s = .next { s with sp := { s.sp with
      overrun := true, latches := s.sp.latches ||| 0x0800
      attnLine := (s.sp.latches ||| 0x0800) &&& ~~~s.sp.masks != 0 } }) ∧
  [AnswerCode.done, .started, .refused].map AnswerCode.code = [0, 1, 2] ∧
  [Reason.none, .unknown, .format, .range, .state, .pending, .rezoneOpen, .noActuator, .invalid, .faultPresent,
    .targetReached, .link, .station, .occupied, .keyInUse, .loadOn, .stillOpen, .tableFull, .confirmedHeld, .swapPending,
    .readOnly, .vacant, .bankActive].map Reason.code = (List.range 23).map byteOf

/-- A frame of a wrong outer form is answered REFUSED with FORMAT and ends AMEND; a right frame of no request code is
answered REFUSED with UNKNOWN. That a malformed READ DATA, WRITE DATA or AMEND ON ends AMEND too is the model's
reading (log 11). A request of a right outer form whose parameter length is not the one of its row in 11.2 is refused
with FORMAT, before any other check, and changes nothing at its owner. -/
def Obligations.FramesRefusedByForm : Prop :=
  ((∀ (c : Instr) (code : Byte) (tail : List Byte) (s : State), encodeFrame c = some (code :: tail) → code ≠ 0x00 →
    PortFree s → frameParams tail = none →
    exec c s = .next (answered code (refusedFor .format) { s with sp := { s.sp with amend := false } })) ∧
  ∀ (code : Byte) (tail params : List Byte) (s : State), PortFree s → frameParams tail = some params →
    exec (.unknown code tail) s = .next (answered code (refusedFor .unknown) { s with sp := { s.sp with amend := false } })) ∧
  (∀ (c : Instr) (code : Byte) (tail params : List Byte) (s : State), encodeFrame c = some (code :: tail) →
    code ≠ 0x00 → requestCodes.contains code.toNat = true → PortFree s → frameParams tail = some params →
    lengthRight code params = false → c.wf = true →
    exec c s = .next (answered code (refusedFor .format) s))

/-- STATUS is taken in every state and put to LSQ, the ZDU, ACH and GSC. Each answers its groups as its state stands, by
an event of its own; others may fall between. The reports the owner has sent before, still in transit, reach SP before its
answer, oldest first, each as its command takes it, so that a latch set by an event whose effects are read is shown set; the
event changes nothing else. With the last one in, the answer DONE sets out: 52 bytes, as 11.3 lays them out, with the codes
of 11.5. An owner that is not asked changes nothing. That each owner's read is an ANSWER_TO_SLOT of its own, in any order,
is the model's form of R174 (log 7); so is it that the reports are those of the classes R175 and R176 give the owner
(DEDUCED, log 31). -/
def Obligations.StatusAnswersTheState : Prop :=
  let lsq := fun s : State => [byteOf s.lsq.seq.code, optByte s.lsq.seq.subPhase, optByte s.lsq.seq.heldOrigin,
      byteOf s.lsq.haltCause.code, byteOf s.lsq.position] ++ le32 s.lsq.passCount ++
    [byteOf s.lsq.scale, byteOf s.lsq.direction.code, if s.lsq.intervalAuto then 0 else 1] ++
    le16 s.lsq.intervalNumber.toNat ++ le16 s.lsq.intervalPasses ++
    [byteOf s.lsq.active.code, byteOf s.lsq.bankA.state.code, byteOf s.lsq.bankB.state.code,
      if s.lsq.swapPending then 1 else 0]
  let stepPhase := fun s : State => [optByte s.lsq.seq.stepPhase]
  let zdu := fun s : State => [byteOf (zoneCount s), if s.zdu.rezone.isSome then 1 else 0] ++
    le16 ((s.zdu.rezone.map fun r => r.sweepCount).getD 0) ++ le16 (totalOver s) ++ le16 (totalFault s)
  let gauges := fun s : State => le16 ((s.gsc.zeroOp.map fun z => z.pending).getD 0) ++
    [if s.gsc.shuntOp.isSome then 1 else 0] ++ le16 ((s.gsc.shuntOp.map fun o => o.gauge.val).getD 0xFFFF)
  let drives := fun s : State => s.ach.acts.rows.map fun r => byteOf r.link.code
  let scanners := fun s : State => s.gsc.links.rows.map fun l => byteOf l.state.code
  let attention := fun s : State => le16 s.sp.latches.toNat ++ le16 s.sp.masks.toNat ++
    [byteOf s.sp.edgeModes.toNat, byteOf s.sp.condValues.toNat]
  let read := fun (b : Block) (s : State) (g : StatusGroups) => match b with
    | .lsq => { g with lsq := lsq s ++ stepPhase s }
    | .zdu => { g with zdu := zdu s }
    | .ach => { g with ach := drives s }
    | .gsc => { g with gsc := gauges s ++ scanners s }
    | .cwu => g
  let formed := fun (g : StatusGroups) (s : State) =>
    g.lsq.take 20 ++ g.zdu ++ g.gsc.take 5 ++ g.ach ++ g.gsc.drop 5 ++ attention s ++ g.lsq.drop 20
  let report := fun (b : Block) (m : Instr) => match m with
    | .attentionEventReport c => (c, b) ∈ [(EventClass.seqState, Block.lsq), (.passDone, .lsq), (.intervalClosed, .lsq),
        (.bankEvent, .lsq), (.opDone, .zdu), (.opDone, .gsc), (.zoneDerate, .zdu), (.actFault, .ach), (.loopBroken, .cwu),
        (.crackOpened, .cwu), (.crackState, .cwu), (.crackTableFull, .cwu)]
    | .conditionEdgeReport c _ =>
      (c, b) ∈ [(CondClass.anyOver, Block.zdu), (.anyFault, .zdu), (.anyAlert, .gsc)]
    | .linkReport (.drive _) _ => b = .ach
    | .linkReport (.scanner _) _ => b = .gsc
    | _ => False
  (∀ (b : Block) (s : State), (∀ m ∈ s.transit, ¬ report b m) → takeReportsOf b s = s) ∧
  (∀ (b : Block) (s : State) (pre : List Instr) (m : Instr) (post : List Instr), s.resetHeld = false →
    s.transit = pre ++ m :: post → (∀ x ∈ pre, ¬ report b x) → report b m →
    ∃ t, exec m s = .next t ∧ takeReportsOf b s = takeReportsOf b t) ∧
  (∀ s : State, PortFree s → exec (.status [0]) s = .next
    (asked { op := .status { lsq := [], zdu := [], ach := [], gsc := [] }, place := [], waiting := [.lsq, .zdu, .ach, .gsc] }
      (atOwner 0x01 s))) ∧
  (∀ (b : Block) (g : StatusGroups) (place : List Byte) (waiting : List Block) (s : State), s.resetHeld = false →
    s.sp.gather = some { op := .status g, place := place, waiting := waiting } → b ∈ waiting →
    let t := takeReportsOf b { s with transit := s.transit.erase (.answerToSlot (some b)) }
    t = { s with sp := t.sp, transit := t.transit } ∧
    exec (.answerToSlot (some b)) s = .next
      (gathered { op := .status (read b s g), place := place, waiting := waiting.erase b } (formed (read b s g) t) t)) ∧
  (∀ (b : Block) (s : State), s.resetHeld = false → (∀ g, s.sp.gather = some g → b ∉ g.waiting) →
    exec (.answerToSlot (some b)) s = .next { s with transit := s.transit.erase (.answerToSlot (some b)) }) ∧
  (∀ s1 s2 s3 s4 s : State,
    let data := formed (read .gsc s4 (read .ach s3 (read .zdu s2 (read .lsq s1 {})))) s
    data.length = 52 ∧ data.take 20 = lsq s1 ∧ (data.drop 20).take 8 = zdu s2 ∧ (data.drop 28).take 5 = gauges s4 ∧
    (data.drop 33).take 8 = drives s3 ∧ (data.drop 41).take 4 = scanners s4 ∧ (data.drop 45).take 6 = attention s ∧
    data.drop 51 = stepPhase s1) ∧
  [SeqState.idle, .arming, .ready, .running .ramp, .running .dwell, .haltingFinish .ramp, .haltingFinish .dwell,
      .haltingRest, .held .step, .held .rest, .halted, .disarming].map (fun q =>
        (q.code, optByte q.subPhase, optByte q.heldOrigin, optByte q.stepPhase)) =
    [(0, 0xFF, 0xFF, 0xFF), (1, 0xFF, 0xFF, 0xFF), (2, 0xFF, 0xFF, 0xFF), (3, 0xFF, 0xFF, 0), (3, 0xFF, 0xFF, 1),
      (4, 2, 0xFF, 0), (4, 2, 0xFF, 1), (4, 3, 0xFF, 0xFF), (5, 0xFF, 0, 0xFF), (5, 0xFF, 1, 0xFF), (6, 0xFF, 0xFF, 0xFF),
      (7, 0xFF, 0xFF, 0xFF)] ∧
  [HaltCause.none, .hostOrderly, .targetReached, .strainTrip, .crackGrowth, .crackTableFull, .hostImmediate,
    .actuatorFault, .armFailed].map HaltCause.code = List.range 9

/-- READ ATTENTION answers the sixteen latches and the condition values as they stood and clears every latch; SET
ATTENTION replaces masks and edge modes whole, re-evaluates the line, and answers them as now held; a mode byte with a
bit above 3 is refused with RANGE. -/
def Obligations.ReadAndSetAttention : Prop :=
  (∀ s : State, PortFree s →
    exec (.readAttention [0]) s = .next (answered 0x02
      (doneWith (le16 s.sp.latches.toNat ++ [byteOf s.sp.condValues.toNat]))
      { s with sp := { s.sp with latches := 0, attnLine := false } })) ∧
  ∀ (m0 m1 modes : Byte) (s : State), PortFree s →
    (modes.toNat < 16 → exec (.setAttention [3, m0, m1, modes]) s = .next (answered 0x03 (doneWith [m0, m1, modes])
      { s with sp := { s.sp with
          masks := bits16 m0 m1, edgeModes := modes.setWidth 4
          attnLine := s.sp.latches &&& ~~~bits16 m0 m1 != 0 } })) ∧
    (16 ≤ modes.toNat → exec (.setAttention [3, m0, m1, modes]) s = .next (answered 0x03 (refusedFor .range) s))

/-- A report reaches SP: an event report sets the latch of its class, SEQ_STATE bit 0 to PORT_OVERRUN bit 11; a
condition edge to a new value sets the value, LINK_LOST bit 0 to ANY_ALERT bit 3, an entry setting the latch, bit 12 to
15, in either mode and an exit in BOTH mode alone; one to the value held changes nothing. Wherever a latch is set the
line is re-evaluated from the latches and the masks. A link report moves the link, drive 0..7 or scanner 8..11, into or
out of the lost-link set; LINK_LOST has an entry edge when the set becomes non-empty, an exit edge when it becomes
empty, and none otherwise. -/
def Obligations.ReportsReachThePort : Prop :=
  let latch := fun (n : Nat) (sp : Sp) => { sp with
    latches := sp.latches ||| ((1 : BitVec 16) <<< n)
    attnLine := (sp.latches ||| ((1 : BitVec 16) <<< n)) &&& ~~~sp.masks != 0 }
  let enter := fun (j : Nat) (sp : Sp) => latch (12 + j) { sp with condValues := sp.condValues ||| ((1 : BitVec 4) <<< j) }
  let leave := fun (j : Nat) (sp : Sp) =>
    let left := { sp with condValues := sp.condValues &&& ~~~((1 : BitVec 4) <<< j) }
    if sp.edgeModes.getLsbD j then latch (12 + j) left else left
  (∀ (c : EventClass) (n : Nat) (s : State), s.resetHeld = false →
    (c, n) ∈ [(EventClass.seqState, 0), (.passDone, 1), (.intervalClosed, 2), (.opDone, 3), (.actFault, 4),
      (.loopBroken, 5), (.crackOpened, 6), (.crackState, 7), (.crackTableFull, 8), (.zoneDerate, 9), (.bankEvent, 10),
      (.portOverrun, 11)] →
    exec (.attentionEventReport c) s = .next { s with
      transit := s.transit.erase (.attentionEventReport c), sp := latch n s.sp }) ∧
  (∀ (c : CondClass) (j : Nat) (s : State), s.resetHeld = false →
    (c, j) ∈ [(CondClass.linkLost, 0), (.anyOver, 1), (.anyFault, 2), (.anyAlert, 3)] →
    (∀ e : Edge, s.sp.condValues.getLsbD j = (e == .entry) →
      exec (.conditionEdgeReport c e) s = .next { s with transit := s.transit.erase (.conditionEdgeReport c e) }) ∧
    (s.sp.condValues.getLsbD j = false → exec (.conditionEdgeReport c .entry) s = .next { s with
      transit := s.transit.erase (.conditionEdgeReport c .entry), sp := enter j s.sp }) ∧
    (s.sp.condValues.getLsbD j = true → exec (.conditionEdgeReport c .exit) s = .next { s with
      transit := s.transit.erase (.conditionEdgeReport c .exit), sp := leave j s.sp })) ∧
  ∀ (l : Link) (lost : Bool) (s : State), s.resetHeld = false →
    let n := match l with
      | .drive a => a.val
      | .scanner k => 8 + k.val
    let bit := (1 : BitVec 12) <<< n
    let set := if lost then s.sp.lostLinks ||| bit else s.sp.lostLinks &&& ~~~bit
    let t := { s with transit := s.transit.erase (.linkReport l lost), sp := { s.sp with lostLinks := set } }
    (s.sp.lostLinks = 0 → set ≠ 0 → exec (.linkReport l lost) s = .next
      (if s.sp.condValues.getLsbD 0 then t else { t with sp := enter 0 t.sp })) ∧
    (s.sp.lostLinks ≠ 0 → set = 0 → exec (.linkReport l lost) s = .next
      (if s.sp.condValues.getLsbD 0 then { t with sp := leave 0 t.sp } else t)) ∧
    ((s.sp.lostLinks = 0 ↔ set = 0) → exec (.linkReport l lost) s = .next t)

/-- RESTART with the sequencer IDLE and no REZONE open: SP clears the window, AMEND, the latches and the overrun flag
and notifies the five blocks; the slot stays WORKING with no answer yet. Otherwise it is refused with STATE. SP counts
the blocks whose part is done; the fifth brings the answer DONE. Each block's part of RESTART: ACH, LSQ and the ZDU
keep everything; CWU empties the pending hits and the tallies and judges each OPENING loop by its line; GSC makes
every link SILENT, ends ZERO and SHUNT without a result, and returns judged and FAULT(LINK) records to WAITING with
the claims of R85 and the ANY_ALERT edge. Each then tells SP. -/
def Obligations.RestartOfThePart : Prop :=
  ((∀ s : State, PortFree s →
    (s.lsq.seq = .idle → s.zdu.rezone = none → exec (.restart [0]) s = .next { s with
      sp := { s.sp with
        slot := .working 0x04, window := none, amend := false, latches := 0, overrun := false, attnLine := false
        restartDone := some [] }
      transit := s.transit ++ [.restartNotice .gsc, .restartNotice .cwu, .restartNotice .ach, .restartNotice .lsq,
        .restartNotice .zdu] }) ∧
    (s.lsq.seq ≠ .idle ∨ s.zdu.rezone.isSome = true →
      exec (.restart [0]) s = .next (answered 0x04 (refusedFor .state) s))) ∧
  (∀ (b : Block) (bs : List Block) (s : State), s.resetHeld = false → s.sp.restartDone = some bs → b ∉ bs →
    (bs.length < 4 → exec (.restartPartDone b) s = .next { s with
      transit := s.transit.erase (.restartPartDone b)
      sp := { s.sp with restartDone := some (bs ++ [b]) } }) ∧
    (4 ≤ bs.length → exec (.restartPartDone b) s = .next { s with
      transit := s.transit.erase (.restartPartDone b) ++ [.answerToSlot none]
      sp := { s.sp with restartDone := none, answer := some { request := 0x04, reply := doneWith [] } } }))) ∧
  (∀ s : State, s.resetHeld = false →
    (∀ b : Block, b = .ach ∨ b = .lsq ∨ b = .zdu → exec (.restartNotice b) s = .next { s with
      transit := s.transit.erase (.restartNotice b) ++ [.restartPartDone b] }) ∧
    (exec (.restartNotice .cwu) s = .next { s with
      transit := s.transit.erase (.restartNotice .cwu) ++ [.restartPartDone .cwu]
      cwu := { s.cwu with
        hits := [], tallies := Table.fill _ {}
        loops := s.cwu.loops.map fun r =>
          if r.state = .opening then
            if r.closed = true then { r with state := .intact, timer := none } else { r with timer := some r.confirmTime }
          else r } }) ∧
    ∃ t, exec (.restartNotice .gsc) s = .next t ∧
      t = { s with gsc := t.gsc, transit := t.transit } ∧
      t.gsc = { s.gsc with gauges := t.gsc.gauges, links := Table.fill _ {}, zeroOp := none, shuntOp := none } ∧
      (∀ i, gauge i t =
        if (gauge i s).state = .vacant then gauge i s
        else { gauge i s with
          state := if (gauge i s).state ∈ [.waiting, .quiet, .alert, .over, .fault .link] then .waiting
            else (gauge i s).state
          overRun := 0, clearRun := 0, overHeld := false, zeroPending := false, shuntPending := false }) ∧
      t.transit = s.transit.erase (.restartNotice .gsc) ++
        (((indices Config.scanners).filter fun k => (scannerLink k s).state == .lost).map fun k =>
          .linkReport (.scanner k) false) ++
        (s.gsc.gauges.rows.zipIdx.flatMap fun x =>
          if s.gsc.sweep.passed x.2 then claimsOf x.1 (restartGauge x.1) else []) ++
        (if anyAlert s then [.conditionEdgeReport .anyAlert .exit] else []) ++ [.restartPartDone .gsc])

/-- Every step keeps the attention line true to the latches and masks. -/
def Obligations.AttentionLineStaysTrue : Prop :=
  ∀ s t : State, AttentionTrue s → step s = .next t → AttentionTrue t

/-! ### Windows and lookups (chapter 10) -/

/-- SET WINDOW whose checks pass replaces the whole window, places the pointer on the first record at the lowest
unmasked field, ends AMEND and answers the number of unmasked cells; one whose table, rectangle, order or mask fails a
check is refused with RANGE and leaves the window as it was. AMEND ON with a window is DONE and leaves AMEND on, without
one it is refused with STATE; AMEND OFF is DONE in every state and leaves AMEND off. Neither moves the pointer. -/
def Obligations.SetWindowAndAmend : Prop :=
  (∀ (tb a0 a1 b0 b1 f0 f1 ob m0 m1 m2 m3 : Byte) (s : State), PortFree s →
    let mask := BitVec.ofNat 32 (u32 m0 m1 m2 m3)
    let fields := ((List.range (f1.toNat - f0.toNat + 1)).filter fun i => mask.getLsbD i).map fun i => f0.toNat + i
    let fits := fun t : WTable => u16 a0 a1 ≤ u16 b0 b1 ∧ u16 b0 b1 < t.records ∧ f0.toNat ≤ f1.toNat ∧
      f1.toNat < t.fields ∧ f1.toNat - f0.toNat ≤ 31 ∧ fields ≠ []
    let placed : WTable → ScanOrder → Window := fun t o =>
      { table := t, firstRec := u16 a0 a1, lastRec := u16 b0 b1, firstField := f0.toNat, lastField := f1.toNat,
        order := o, mask := mask, ptrRec := u16 a0 a1, ptrField := fields.headD f0.toNat }
    (∀ t o, tableOf tb = some t → scanOrderOf ob = some o → fits t →
      exec (.setWindow [12, tb, a0, a1, b0, b1, f0, f1, ob, m0, m1, m2, m3]) s =
        .next (answered 0x10 (doneWith (le16 (fields.length * (u16 b0 b1 - u16 a0 a1 + 1))))
          { s with sp := { s.sp with window := some (placed t o) } })) ∧
    (tableOf tb = none ∨ scanOrderOf ob = none ∨ (∃ t, tableOf tb = some t ∧ ¬ fits t) →
      exec (.setWindow [12, tb, a0, a1, b0, b1, f0, f1, ob, m0, m1, m2, m3]) s =
        .next (answered 0x10 (refusedFor .range) s))) ∧
  ∀ s : State, PortFree s →
    (s.sp.window ≠ none → exec (.amendOn [0]) s =
      .next (answered 0x13 (doneWith []) { s with sp := { s.sp with amend := true } })) ∧
    (s.sp.window = none → exec (.amendOn [0]) s = .next (answered 0x13 (refusedFor .state) s)) ∧
    exec (.amendOff [0]) s = .next (answered 0x14 (doneWith []) { s with sp := { s.sp with amend := false } })

/-- The cells of a window are its records paired with its unmasked fields: in RECORD order the fields of the first record,
then those of the next; in FIELD order the first field of every record, then the next field. The pointer stands on one of
them and moves to the next, from the last to the first. READ DATA of 1..30 values answers the pointer, the AMEND flag, the
vacancy marks, bit i for value i, and the values (WindowFieldsRead) of the cells from the pointer, and advances the pointer
outside AMEND alone. Over SETTINGS each owner concerned answers its own fields by an event of its own, others falling
between, and with the last one in the answer sets out: that each is an ANSWER_TO_SLOT of its own is the model's form of
R186 (log 7). A count of 0 or above 30 is refused with RANGE, then no window with STATE. -/
def Obligations.ReadDataAnswersTheCells : Prop :=
  let owner := fun f : Nat =>
    if f ≤ 1 then Block.zdu else if f ≤ 3 then .ach else if f ≤ 12 then .lsq else if f ≤ 17 then .gsc else .cwu
  let place := fun (w : Window) (s : State) => le16 w.ptrRec ++ [byteOf w.ptrField, if s.sp.amend then 1 else 0]
  (∀ (w : Window) (n k : Nat),
    let fields := ((List.range (w.lastField - w.firstField + 1)).filter fun i => w.mask.getLsbD i).map (w.firstField + ·)
    let records := List.range' w.firstRec (w.lastRec - w.firstRec + 1)
    let sequence := match w.order with
      | .record => records.flatMap fun r => fields.map fun f => (r, f)
      | .field => fields.flatMap fun f => records.map fun r => (r, f)
    let cell := fun j : Nat => sequence.getD ((k + j) % sequence.length) (0, 0)
    sequence[k]? = some (w.ptrRec, w.ptrField) →
      w.cellsFrom n = (List.range n).map cell ∧
      w.advanceBy n = { w with ptrRec := (cell n).1, ptrField := (cell n).2 }) ∧
  (∀ (xs : List CellRead) (i : Nat), (markBits xs).testBit i = (xs[i]?.map CellRead.mark == some true)) ∧
  (∀ (n : Byte) (s : State), PortFree s →
    (∀ w, s.sp.window = some w → 1 ≤ n.toNat → n.toNat ≤ 30 →
      let moved := fun t : State =>
        { t with sp := { t.sp with window := if s.sp.amend then some w else some (w.advanceBy n.toNat) } }
      let x := readCells w.table (w.cellsFrom n.toNat) (atOwner 0x11 s)
      let fields := (w.cellsFrom n.toNat).map fun c => c.2
      (w.table ≠ .settings → exec (.readData [1, n]) s = .next (replied 0x11
        (doneWith (place w s ++ le32 (markBits x.2) ++ x.2.flatMap fun c => le32 c.value.toNat)) (moved x.1))) ∧
      (w.table = .settings → exec (.readData [1, n]) s = .next (asked
        { op := .read (fields.map fun f => { field := f }), place := place w s
          waiting := [Block.zdu, .ach, .lsq, .gsc, .cwu].filter fun b => fields.any fun f => owner f == b }
        (moved (atOwner 0x11 s))))) ∧
    (n.toNat = 0 ∨ 30 < n.toNat → exec (.readData [1, n]) s = .next (answered 0x11 (refusedFor .range) s)) ∧
    (1 ≤ n.toNat → n.toNat ≤ 30 → s.sp.window = none →
      exec (.readData [1, n]) s = .next (answered 0x11 (refusedFor .state) s))) ∧
  ∀ (b : Block) (cells : List SettingRead) (place : List Byte) (waiting : List Block) (s : State), s.resetHeld = false →
    s.sp.gather = some { op := .read cells, place := place, waiting := waiting } → b ∈ waiting →
    let read := cells.map fun c =>
      if owner c.field = b then { c with value := some (windowValue (cellValue .settings 0 c.field s)) } else c
    exec (.answerToSlot (some b)) s = .next
      (gathered { op := .read read, place := place, waiting := waiting.erase b }
        (place ++ le32 0 ++ read.flatMap fun c => le32 (c.value.getD 0).toNat)
        { s with transit := s.transit.erase (.answerToSlot (some b)) })

/-- Reading cells answers, for each in turn, its value and vacancy mark. A live or held interval field, a GAUGES cell of
field 25 to 32, touches its record under the present interval number first: the cell and the later ones are answered from
the record touched. A read touches exactly the records it reads such a field of and changes nothing else. FIND
with a test of a live or held interval field touches each open record it examines, up to the match, and answers the
first match, each record tested as touched. A touch under the present interval number moves the live interval to the held
one and starts a live one under that number; where the record is VACANT or has the number it changes nothing. -/
def Obligations.LazyTransferOnReads : Prop :=
  (∀ (g : Gauge) (n : BitVec 16),
    (g.state = .vacant ∨ g.live.number = n → g.touch n = g) ∧
    (g.state ≠ .vacant → g.live.number ≠ n →
      g.touch n = { g with held := g.live, live := { exceed := 0, max := none, min := none, number := n } })) ∧
  (∀ (t : WTable) (f : Nat), t.isInterval f = true ↔ t = .gauges ∧ 25 ≤ f ∧ f ≤ 32) ∧
  ((∀ (t : WTable) (cells : List (Nat × Nat)) (s : State), (∀ c ∈ cells, t.isInterval c.2 = false) →
    readCells t cells s = (s, cells.map fun c =>
      { value := windowValue (cellValue t c.1 c.2 s), mark := vacancyMark t c.1 s })) ∧
  (∀ s : State, readCells .gauges [] s = (s, [])) ∧
  (∀ (i : Fin Config.gauges) (f : Nat) (rest : List (Nat × Nat)) (s : State),
    let touched := { s with gsc := { s.gsc with gauges := s.gsc.gauges.set i ((gauge i s).touch s.gsc.interval) } }
    let s1 := if 25 ≤ f ∧ f ≤ 32 then touched else s
    let later := readCells .gauges rest s1
    readCells .gauges ((i.val, f) :: rest) s = (later.1,
      { value := windowValue (cellValue .gauges i.val f s1), mark := vacancyMark .gauges i.val s1 } :: later.2)) ∧
  ∀ (t : WTable) (cells : List (Nat × Nat)) (s : State),
    (readCells t cells s).1 = { s with gsc := { s.gsc with gauges := (readCells t cells s).1.gsc.gauges } } ∧
    ∀ i, gauge i (readCells t cells s).1 =
      if t = .gauges ∧ ∃ c ∈ cells, c.1 = i.val ∧ 25 ≤ c.2 ∧ c.2 ≤ 32 then (gauge i s).touch s.gsc.interval
      else gauge i s) ∧
  (∀ (set zone i0 i1 field relb v0 v1 v2 v3 : Byte) (rel : Relation) (s : State), PortFree s →
    relationOf relb = some rel → rel ≠ .none → 25 ≤ field.toNat → field.toNat ≤ 32 → set.toNat ≠ 0 → set.toNat < 128 →
    (zone = 0xFF ∨ zone.toNat < 32) → u16 i0 i1 < 512 →
    ∃ (found : Option Nat) (t : State),
      exec (.find [12, 0, set, zone, i0, i1, field, relb, v0, v1, v2, v3, 0]) s =
        .next (answered 0x15 (doneWith (le16 (found.getD 0xFFFF))) t) ∧
      t = { s with gsc := { s.gsc with gauges := t.gsc.gauges } } ∧
      (∀ i, gauge i t =
        if u16 i0 i1 ≤ i.val ∧ (∀ r, found = some r → i.val ≤ r) then (gauge i s).touch s.gsc.interval
        else gauge i s) ∧
      let hit := fun r : Nat => set.getLsbD (stateNumber .gauges r t) &&
        (zone == 0xFF || storedZone .gauges r t == zone.toNat) &&
        relationHolds (WTable.gauges.signed field.toNat) rel (windowValue (cellValue .gauges r field.toNat t))
          (BitVec.ofNat 32 (u32 v0 v1 v2 v3))
      (∀ r, found = some r → u16 i0 i1 ≤ r ∧ r < 512 ∧ hit r = true) ∧
      ∀ r, u16 i0 i1 ≤ r → r < 512 → (∀ k, found = some k → r < k) → hit r = false)

/-- WRITE DATA offers its values, four bytes each, to the cells from the pointer, in sequence order, each seeing the effects
of the ones before it; it answers how many were taken and skipped, the first skip reason, the pointer after the last value
and the AMEND flag, and moves the pointer. The owner's event closes with its claims: over GAUGES those of each record of
the window that is not waiting for a sweep, over CRACKS one for each zone a taken derate write touched, formed over the
zone's swept records: the least derate of its CONFIRMED and ARRESTED ones and the count of its open ones. Over SETTINGS
each owner takes its own claims by an event of its own, others falling between: that each is an ANSWER_TO_SLOT of its own
is the model's form of R189 (log 7). With no window the request is refused with STATE. A skipped field-write claim changes
nothing at all. -/
def Obligations.WriteDataOffersTheValues : Prop :=
  let owner := fun f : Nat =>
    if f ≤ 1 then Block.zdu else if f ≤ 3 then .ach else if f ≤ 12 then .lsq else if f ≤ 17 then .gsc else .cwu
  let outcomes := fun outs : List (Option Reason) =>
    [byteOf (outs.countP fun o => o.isNone), byteOf (outs.countP fun o => o.isSome),
      ((outs.filterMap id).headD .none).code]
  (∀ (t : WTable) (s : State), writeCells t [] s = (s, []) ∧
    ∀ (record field : Nat) (v : Word) (rest : List ((Nat × Nat) × Word)),
      let y := writeCell t record field v s
      let x := writeCells t rest y.1
      writeCells t (((record, field), v) :: rest) s = (x.1, ((record, field), y.2) :: x.2)) ∧
  (∀ (params : List Byte) (s : State), PortFree s → params ≠ [] → params.length % 4 = 0 → params.length ≤ 64 →
    let values := (List.range (params.length / 4)).map fun k => BitVec.ofNat 32
      (u32 (params.getD (4 * k) 0) (params.getD (4 * k + 1) 0) (params.getD (4 * k + 2) 0) (params.getD (4 * k + 3) 0))
    (∀ w, s.sp.window = some w →
      let w' := w.advanceBy values.length
      let place := le16 w'.ptrRec ++ [byteOf w'.ptrField, if s.sp.amend then 1 else 0]
      let cells := (w.cellsFrom values.length).zip values
      let x := writeCells w.table cells (atOwner 0x12 s)
      (w.table ≠ .settings → ∃ claims,
        exec (.writeData (byteOf params.length :: params)) s = .next (replied 0x12
          (doneWith (outcomes (x.2.map fun o => o.2) ++ place))
          { x.1 with transit := x.1.transit ++ claims, sp := { x.1.sp with window := some w' } }) ∧
        (w.table = .gauges → claims =
          ((List.finRange Config.gauges).filter fun i => decide (w.firstRec ≤ i.val ∧ i.val ≤ w.lastRec)).flatMap fun i =>
            if x.1.gsc.sweep.passed i.val then claimsOf (gauge i s) (gauge i x.1) else []) ∧
        (w.table = .cracks → ∃ zones : List Nat, zones.Nodup ∧ claims = zones.map (crackClaim x.1) ∧
          ∀ z, z ∈ zones ↔ ∃ i : Fin Config.cracks, ((i.val, 9), none) ∈ x.2 ∧
            x.1.cwu.sweep.passed (40 + i.val) = true ∧ (crack i x.1).zone = z) ∧
        (w.table ≠ .gauges → w.table ≠ .cracks → claims = [])) ∧
      (w.table = .settings → exec (.writeData (byteOf params.length :: params)) s = .next (asked
        { op := .write (cells.map fun c => { field := c.1.2, value := c.2 }), place := place
          waiting := [Block.zdu, .ach, .lsq, .gsc, .cwu].filter fun b => cells.any fun c => owner c.1.2 == b }
        { atOwner 0x12 s with sp := { (atOwner 0x12 s).sp with window := some w' } }))) ∧
    (s.sp.window = none →
      exec (.writeData (byteOf params.length :: params)) s = .next (answered 0x12 (refusedFor .state) s))) ∧
  (∀ (n i : Nat), Sweep.none.passed i = true ∧ Sweep.ordered.passed i = false ∧ (Sweep.at n).passed i = decide (i < n)) ∧
  (∀ (z : Nat) (s : State),
    let mine := (List.finRange Config.cracks).filter fun i =>
      decide ((crack i s).zone = z ∧ (crack i s).state ≠ .vacant) && s.cwu.sweep.passed (40 + i.val)
    let known := mine.filter fun i => decide ((crack i s).state = .confirmed ∨ (crack i s).state = .arrested)
    crackClaim s z = .crackDerate z ((known.map fun i => (crack i s).derate).foldl min 100) mine.length) ∧
  (∀ (b : Block) (claims : List SettingClaim) (place : List Byte) (waiting : List Block) (s : State),
    s.resetHeld = false → s.sp.gather = some { op := .write claims, place := place, waiting := waiting } → b ∈ waiting →
    let start : State × List SettingClaim := ({ s with transit := s.transit.erase (.answerToSlot (some b)) }, [])
    let x := claims.foldl (fun t c =>
      if owner c.field = b then
        let y := writeCell .settings 0 c.field c.value t.1
        (y.1, t.2 ++ [{ c with outcome := some y.2 }])
      else (t.1, t.2 ++ [c])) start
    exec (.answerToSlot (some b)) s = .next
      (gathered { op := .write x.2, place := place, waiting := waiting.erase b }
        (outcomes (x.2.map fun c => c.outcome.getD none) ++ place) x.1)) ∧
  (∀ (t : WTable) (record field : Nat) (v : Word) (r : Reason) (s : State),
    (writeCell t record field v s).2 = some r → (writeCell t record field v s).1 = s)

/-- What each cell of the nine tables reads: the field of 11.6 each number names, by record and table; the defaults where
the record is VACANT or the entry out of use; an enumeration as its code of 11.5, a flag as 0 or 1, an absent field as
80000000H, an absent extreme as 0. Which records carry the vacancy mark, the place of a record's state in a FIND's state
set, the zone a FIND compares, the fields compared as signed numbers, and the relations. That a last quality or a card status
of NONE reads as its code, FFH, and not as an absent field, is the model's reading (DEDUCED, log 24). -/
def Obligations.WindowFieldsRead : Prop :=
  let nat := fun n : Nat => some (n : Int)
  let flag := fun b : Bool => some (if b then (1 : Int) else 0)
  let opt := fun n : Option Nat => n.map fun (k : Nat) => (k : Int)
  let row := fun (t : WTable) (r : Nat) (s : State) => (List.range t.fields).map fun f => cellValue t r f s
  let limits := fun l : LimitSet => [some l.upper, some l.lower, nat l.alertPct, nat l.hyst, nat l.declare]
  let interval := fun n : GaugeInterval =>
    [nat n.exceed, some (n.max.getD 0), some (n.min.getD 0), nat n.number.toNat]
  let gaugeRow := fun g : Gauge =>
    [nat g.state.code, nat g.scanner.val, nat g.channel.val, nat g.station, nat g.zone,
      (match g.state with
        | .fault .open => some 0
        | .fault .range => some 1
        | .fault .link => some 2
        | .fault .shunt => some 3
        | _ => none),
      flag g.overHeld, some g.zero, flag g.zeroPending, flag g.shuntPending] ++ limits g.setA ++ limits g.setB ++
      [nat g.overRun, nat g.clearRun, some g.lastValue, nat (qualityCode g.lastQuality), g.lastGood] ++
      interval g.live ++ interval g.held ++ [some g.shuntStep, nat g.shuntTol]
  let vacantGauge := [some 0, some 0, some 0, some 0, some 0, none, some 0, some 0, some 0, some 0, some 32000, some (-32000),
    some 80, some 20, some 3, some 32000, some (-32000), some 80, some 20, some 3, some 0, some 0, some 0, some 255, none,
    some 0, some 0, some 0, some 0, some 0, some 0, some 0, some 0, some 500, some 50]
  let crackRow := fun (i : Nat) (r : Crack) =>
    [nat i, nat r.state.code, opt (r.origin.map Origin.code), nat r.seed, nat r.zone, nat r.lo, nat r.hi, nat r.confWidth,
      nat r.openedPass, nat r.derate, nat r.activeRun, nat r.quietRun, nat r.hits, nat r.loops.length] ++
      ((List.range 8).map fun k => r.loops[k]?.map fun l => (l.val : Int)) ++ [flag r.growthHalt, nat r.note]
  let vacantCrack := fun i : Nat =>
    [nat i, some 0, none, some 0, some 0, some 0, some 0, some 0, some 0, some 100, some 0, some 0, some 0, some 0, none, none,
      none, none, none, none, none, none, some 0, some 0]
  let bankRow := fun (n : BankName) (b : Bank) =>
    let failing := match b.state with
      | .invalid f => [nat f.item.code, opt f.index, opt f.act]
      | _ => [none, none, none]
    [nat n.code, nat b.len] ++ b.cells.rows.map some ++ [some b.bed, nat b.lead, nat b.trail, nat b.endCount] ++
      b.ends.rows.map some ++
      [nat b.ramp, nat b.dwell, nat b.dir.code, flag b.shuttle, nat b.target, nat b.state.code] ++ failing
  (windowValue none = 0x80000000 ∧ ∀ x, windowValue (some x) = BitVec.ofInt 32 x) ∧
  (∀ (i : Fin Config.gauges) (s : State),
    row .gauges i.val s = if (gauge i s).state = .vacant then vacantGauge else gaugeRow (gauge i s)) ∧
  (∀ (i : Fin Config.cracks) (s : State),
    row .cracks i.val s = if (crack i s).state = .vacant then vacantCrack i.val else crackRow i.val (crack i s)) ∧
  (∀ (l : Fin Config.loops) (s : State), let r := loop l s
    row .loops l.val s = [nat r.station, nat r.zone, nat r.state.code, nat r.confirmTime, flag r.closed,
      opt (r.bound.map fun i => i.val)]) ∧
  (∀ (c : Fin Config.sensors) (s : State), let r := sensor c s
    row .sensors c.val s = [nat r.station, nat r.zone, flag r.enabled]) ∧
  (∀ (z : Nat) (s : State), let e := zoneEntry z s
    row .zones z s = if z < zoneCount s then
        [nat (if z = 0 then 0 else s.zdu.boundaries.getD (z - 1) 0), nat e.manual, nat e.overDerate, nat e.crackDerate,
          nat (if 1 ≤ e.overCount then e.overDerate else 100), nat e.effective, nat e.overCount, nat e.faultCount,
          nat e.crackCount, flag e.loadFlag]
      else [some 0, some 100, some 70, some 100, some 100, some 100, some 0, some 0, some 0, some 0]) ∧
  (∀ (a : Fin Config.actuators) (s : State), let r := act a s
    row .actuators a.val s =
      [nat r.station, nat r.zone, nat r.state.code, some r.compLimit, some r.tensLimit, some r.restLoad, nat r.followLimit,
        nat r.settleAllow, some r.strokeMin, some r.strokeMax, some r.lastTarget, nat r.lastRamp, nat r.lastTag.toNat,
        some r.repForce, some r.repStroke, nat (cardStatusCode r.repStatus), nat r.repEcho.toNat, nat r.link.code,
        (match r.state with
          | .fault c => nat (ActCause.code c)
          | _ => none),
        nat r.followRun, flag r.settledMark, flag r.freeWait]) ∧
  (∀ s : State, row .standbyBank 0 s = bankRow s.lsq.active.other (standbyBank s) ∧
    row .activeBank 0 s = bankRow s.lsq.active (activeBank s)) ∧
  (∀ s : State, row .settings 0 s =
    [nat s.zdu.tripCount, flag s.zdu.tripArmed, nat s.ach.reportTimeout, nat s.ach.freeTime, nat s.lsq.restRamp,
      nat s.lsq.derateRamp, flag (!s.lsq.intervalAuto), nat s.lsq.intervalLen, nat s.lsq.scale, nat s.lsq.passCount,
      nat s.lsq.intervalNumber.toNat, nat s.lsq.intervalPasses, nat s.lsq.direction.code, nat s.gsc.linkTimeout,
      nat s.gsc.lastZeroed, nat s.gsc.lastSkipped, nat s.gsc.lastShuntGauge, nat s.gsc.lastShuntOutcome.code,
      nat s.cwu.waveSpeed, nat s.cwu.margin, nat s.cwu.sigAmp, nat s.cwu.confirmRun, nat s.cwu.lapseRun,
      nat s.cwu.threshold, nat s.cwu.joinDistance, nat s.cwu.confirmDerate, nat s.cwu.arrestDerate,
      nat s.cwu.growthLimit]) ∧
  (∀ s : State, (∀ i : Fin Config.gauges,
      vacancyMark .gauges i.val s = decide ((gauge i s).state = .vacant) ∧
      stateNumber .gauges i.val s = (gauge i s).state.code ∧
      storedZone .gauges i.val s = if (gauge i s).state = .vacant then 0 else (gauge i s).zone) ∧
    (∀ i : Fin Config.cracks,
      vacancyMark .cracks i.val s = decide ((crack i s).state = .vacant) ∧
      stateNumber .cracks i.val s = (crack i s).state.code ∧
      storedZone .cracks i.val s = if (crack i s).state = .vacant then 0 else (crack i s).zone) ∧
    (∀ l : Fin Config.loops,
      vacancyMark .loops l.val s = decide ((loop l s).state = .unused) ∧
      stateNumber .loops l.val s = (loop l s).state.code ∧ storedZone .loops l.val s = (loop l s).zone) ∧
    (∀ c : Fin Config.sensors,
      vacancyMark .sensors c.val s = false ∧ stateNumber .sensors c.val s = (if (sensor c s).enabled then 0 else 1) ∧
      storedZone .sensors c.val s = (sensor c s).zone) ∧
    (∀ a : Fin Config.actuators,
      vacancyMark .actuators a.val s = false ∧ stateNumber .actuators a.val s = (act a s).state.code ∧
      storedZone .actuators a.val s = (act a s).zone) ∧
    ∀ r : Nat, vacancyMark .zones r s = decide (zoneCount s ≤ r) ∧
      stateNumber .zones r s = (if r < zoneCount s then 0 else 1) ∧
      vacancyMark .standbyBank r s = false ∧ vacancyMark .activeBank r s = false ∧ vacancyMark .settings r s = false) ∧
  [WTable.gauges, .cracks, .loops, .sensors, .zones, .actuators, .standbyBank, .activeBank, .settings].map (fun t =>
      (t.records, t.fields, (List.range t.fields).filter t.signed)) =
    [(512, 35, [7, 10, 11, 15, 16, 22, 24, 26, 27, 30, 31, 33]), (48, 24, []), (24, 6, []), (16, 3, []), (32, 10, []),
      (8, 22, [4, 5, 8, 9, 10, 13, 14]), (1, 45, List.range' 2 17 ++ List.range' 22 14),
      (1, 45, List.range' 2 17 ++ List.range' 22 14), (1, 28, [])] ∧
  ([GaugeState.vacant, .waiting, .quiet, .alert, .over, .fault .open, .suspended].map GaugeState.code =
      [0, 1, 2, 3, 4, 5, 6] ∧ (∀ c, (GaugeState.fault c).code = 5) ∧
    [none, some Quality.good, some .overrange, some .open, some .shunted].map qualityCode = [255, 0, 1, 2, 3] ∧
    [CrackState.vacant, .suspect, .confirmed, .arrested].map CrackState.code = [0, 1, 2, 3] ∧
    [Origin.ae, .wire, .inspection].map Origin.code = [0, 1, 2] ∧
    [LoopState.unused, .intact, .opening, .broken].map LoopState.code = [0, 1, 2, 3] ∧
    [ActState.off, .standby, .driven, .holding].map ActState.code = [0, 1, 2, 3] ∧ (∀ c, (ActState.fault c).code = 4) ∧
    [ActCause.link, .card, .following, .stroke, .slow].map ActCause.code = [0, 1, 2, 3, 4] ∧
    [none, some CardStatus.ramping, some .settled, some .holding, some .free, some .cardFault].map cardStatusCode =
      [255, 0, 1, 2, 3, 4] ∧
    [LinkState.silent, .live, .lost].map LinkState.code = [0, 1, 2] ∧
    [BankName.a, .b].map BankName.code = [0, 1] ∧ [Direction.forward, .reverse].map Direction.code = [0, 1] ∧
    [BankState.empty, .editing, .valid].map BankState.code = [0, 1, 2] ∧ (∀ f, (BankState.invalid f).code = 3) ∧
    [FailItem.envelope, .times, .travel, .endCount, .cell, .bed, .endLoad].map FailItem.code = [0, 1, 2, 3, 4, 5, 6] ∧
    [ShuntOutcome.none, .pass, .fail, .missed, .abandoned].map ShuntOutcome.code = [0, 1, 2, 3, 4]) ∧
  ∀ (signed : Bool) (x y : Word),
    let number := fun v : Word => if signed then v.toInt else (v.toNat : Int)
    relationHolds signed .none x y = true ∧ relationHolds signed .equal x y = decide (x = y) ∧
    relationHolds signed .notEqual x y = decide (x ≠ y) ∧
    relationHolds signed .atLeast x y = decide (number y ≤ number x) ∧
    relationHolds signed .atMost x y = decide (number x ≤ number y)

/-- FIND whose checks pass answers the first record at or above the start index whose state is in the set, whose
stored zone is the one asked for, and whose field test holds, or FFFFH; with a test of no interval field it changes
nothing (tests of interval fields: LazyTransferOnReads). One whose table, state set, zone, start index, field,
relation or reserved byte fails its check is refused with RANGE. -/
def Obligations.FindAnswersTheFirstMatch : Prop :=
  ∀ (tb set zone i0 i1 field relb v0 v1 v2 v3 reserved : Byte) (s : State), PortFree s →
    let frame : List Byte := [12, tb, set, zone, i0, i1, field, relb, v0, v1, v2, v3, reserved]
    let zoneRight := fun t : WTable => zone = 0xFF ∨ (t ≠ .zones ∧ zone.toNat < 32)
    (∀ (t : WTable) (rel : Relation) (n : Nat), tableOf tb = some t → relationOf relb = some rel → t.states = some n →
      set.toNat ≠ 0 → set.toNat < 2 ^ n → zoneRight t → u16 i0 i1 < t.records →
      (rel = .none ∨ (field.toNat < t.fields ∧ t.isInterval field.toNat = false)) → reserved = 0 →
      exec (.find frame) s = .next (answered 0x15
        (doneWith (le16 (((List.range' (u16 i0 i1) (t.records - u16 i0 i1)).find? fun r =>
          set.getLsbD (stateNumber t r s) && (zone == 0xFF || storedZone t r s == zone.toNat) &&
            relationHolds (t.signed field.toNat) rel (windowValue (cellValue t r field.toNat s))
              (BitVec.ofNat 32 (u32 v0 v1 v2 v3))).getD 0xFFFF))) s)) ∧
    (tableOf tb = none ∨ relationOf relb = none ∨ (∃ t, tableOf tb = some t ∧ t.states = none) ∨
      (∃ t n rel, tableOf tb = some t ∧ t.states = some n ∧ relationOf relb = some rel ∧
        (set.toNat = 0 ∨ 2 ^ n ≤ set.toNat ∨ ¬ zoneRight t ∨ t.records ≤ u16 i0 i1 ∨
          (rel ≠ .none ∧ t.fields ≤ field.toNat) ∨ reserved ≠ 0)) →
      exec (.find frame) s = .next (answered 0x15 (refusedFor .range) s))

/-! ### The Zone Derate Unit (chapter 1) -/

/-- The zone of a station is the number of boundaries at or below it: a station that equals a boundary belongs to the
zone above it, and every station decodes below the zone count. Every step keeps the boundary list lawful: at most 31
stations of 1..65000, ascending. -/
def Obligations.StationDecode : Prop :=
  (∀ (x : Nat) (s : State), decodeStation x s = (s.zdu.boundaries.filter fun b => decide (b ≤ x)).length) ∧
  (∀ (x : Nat) (s : State), decodeStation x s < zoneCount s) ∧
  (∀ s t : State, BoundariesTrue s → step s = .next t → BoundariesTrue t) ∧
  ∀ s : State, s.zdu.boundaries = [12000, 30000, 51500] →
    [0, 11999, 12000, 29999, 30000, 51500, 65000].map (decodeStation · s) = [0, 0, 1, 1, 2, 3, 3]

/-- Outside a REZONE the effective derates of a set of zones become the least of their three derates together: one
ZONE_DERATE where any changed, a DERATE_FALL for each that fell, nothing else; while a REZONE is open nothing happens.
-/
def Obligations.UpdatedDeratesAreTheLeastOfThree : Prop :=
  ∀ (zs : List Nat) (s : State), zs.Nodup → (∀ z ∈ zs, z < 32) →
    let t := updateEffective zs s
    let least := fun z => min (zoneEntry z s).crackDerate
      (min (if 1 ≤ (zoneEntry z s).overCount then (zoneEntry z s).overDerate else 100) (zoneEntry z s).manual)
    (s.zdu.rezone.isSome = true → t = s) ∧
    (s.zdu.rezone = none →
      t = { s with zdu := { s.zdu with zones := t.zdu.zones }, transit := t.transit } ∧
      (∀ z, zoneEntry z t = if z ∈ zs then { zoneEntry z s with effective := least z } else zoneEntry z s) ∧
      t.transit = s.transit ++
        (if zs.any fun z => least z != (zoneEntry z s).effective then [.attentionEventReport .zoneDerate] else []) ++
        (zs.filter fun z => decide (least z < (zoneEntry z s).effective)).map .derateFall)

/-- Over claims: OVER_ENTER and OVER_LEAVE add and take 1 of the zone's over count, then update its effective derate,
the strain trip and the conditions; a claim for a zone not in use, or past 512 or below 0, is dropped. Fault claims:
FAULT_ENTER and FAULT_LEAVE add and take 1 of the zone's fault count and evaluate the conditions; they change no
derate; a claim for a zone not in use, or past 512 or below 0, is dropped. -/
def Obligations.ZoneClaims : Prop :=
  (∀ (z : Nat) (s : State), s.resetHeld = false →
    let e := zoneEntry z s
    let after := fun t : State => evalConditions (compareTrip (updateEffective [z] t))
    let s1 := { s with transit := s.transit.erase (.overEnter z) }
    let s2 := { s with transit := s.transit.erase (.overLeave z) }
    (z < zoneCount s → e.overCount < 512 →
      exec (.overEnter z) s = .next (after (setZone z { e with overCount := e.overCount + 1 } s1))) ∧
    (zoneCount s ≤ z ∨ 512 ≤ e.overCount → exec (.overEnter z) s = .next s1) ∧
    (z < zoneCount s → 0 < e.overCount →
      exec (.overLeave z) s = .next (after (setZone z { e with overCount := e.overCount - 1 } s2))) ∧
    (zoneCount s ≤ z ∨ e.overCount = 0 → exec (.overLeave z) s = .next s2)) ∧
  (∀ (z : Nat) (s : State), s.resetHeld = false →
    let e := zoneEntry z s
    let s1 := { s with transit := s.transit.erase (.faultEnter z) }
    let s2 := { s with transit := s.transit.erase (.faultLeave z) }
    (z < zoneCount s → e.faultCount < 512 →
      exec (.faultEnter z) s = .next (evalConditions (setZone z { e with faultCount := e.faultCount + 1 } s1))) ∧
    (zoneCount s ≤ z ∨ 512 ≤ e.faultCount → exec (.faultEnter z) s = .next s1) ∧
    (z < zoneCount s → 0 < e.faultCount →
      exec (.faultLeave z) s = .next (evalConditions (setZone z { e with faultCount := e.faultCount - 1 } s2))) ∧
    (zoneCount s ≤ z ∨ e.faultCount = 0 → exec (.faultLeave z) s = .next s2))

/-- CRACK_DERATE replaces the crack derate and crack count of a zone in use; an unchanged least derate, or an open
REZONE, sends nothing; a rise stores it and raises ZONE_DERATE; a fall also sends DERATE_FALL. LOAD_MASK replaces
every load flag: set for the zones in use that are in the set, clear for every other; nothing else changes. -/
def Obligations.CrackDerateAndLoadMask : Prop :=
  (∀ (z v n : Nat) (s : State), s.resetHeld = false → z < 32 →
    let e := { zoneEntry z s with crackDerate := v, crackCount := n }
    let least := min v (min (if 1 ≤ e.overCount then e.overDerate else 100) e.manual)
    let rest := s.transit.erase (.crackDerate z v n)
    (zoneCount s ≤ z → exec (.crackDerate z v n) s = .next { s with transit := rest }) ∧
    (z < zoneCount s → s.zdu.rezone.isSome = true ∨ least = e.effective →
      exec (.crackDerate z v n) s = .next { setZone z e s with transit := rest }) ∧
    (z < zoneCount s → s.zdu.rezone = none → e.effective < least →
      exec (.crackDerate z v n) s = .next { setZone z { e with effective := least } s with
        transit := rest ++ [.attentionEventReport .zoneDerate] }) ∧
    (z < zoneCount s → s.zdu.rezone = none → least < e.effective →
      exec (.crackDerate z v n) s = .next { setZone z { e with effective := least } s with
        transit := rest ++ [.attentionEventReport .zoneDerate, .derateFall z] })) ∧
  (∀ (set : BitVec 32) (s : State), s.resetHeld = false → ∃ t, exec (.loadMask set) s = .next t ∧
    t = { s with transit := s.transit.erase (.loadMask set), zdu := { s.zdu with zones := t.zdu.zones } } ∧
    ∀ z, z < 32 → zoneEntry z t = { zoneEntry z s with loadFlag := decide (z < zoneCount s) && set.getLsbD z })

/-- The strain trip: outside a REZONE a total at or above a non-zero trip count sends STRAIN_TRIP once and clears the
armed flag, a total below it arms it again, a trip count of 0 does nothing; a write of 0..64 stores, arms and
compares, a larger one is skipped with RANGE. ANY_OVER and ANY_FAULT follow the totals of the zones in use, an edge
reported for each that changes; while a REZONE is open both are held and no edge is reported. -/
def Obligations.StrainTripAndConditions : Prop :=
  ((∀ s : State,
    (s.zdu.rezone.isSome = true ∨ s.zdu.tripCount = 0 → compareTrip s = s) ∧
    (s.zdu.rezone = none → s.zdu.tripCount ≠ 0 → s.zdu.tripCount ≤ totalOver s → s.zdu.tripArmed = true →
      compareTrip s = { s with zdu := { s.zdu with tripArmed := false }, transit := s.transit ++ [.strainTrip] }) ∧
    (s.zdu.rezone = none → s.zdu.tripCount ≠ 0 → s.zdu.tripCount ≤ totalOver s → s.zdu.tripArmed = false →
      compareTrip s = s) ∧
    (s.zdu.rezone = none → totalOver s < s.zdu.tripCount →
      compareTrip s = { s with zdu := { s.zdu with tripArmed := true } })) ∧
  ∀ (v : Word) (s : State),
    (v.toNat ≤ 64 → writeCell .settings 0 0 v s =
      (compareTrip { s with zdu := { s.zdu with tripCount := v.toNat, tripArmed := true } }, none)) ∧
    (64 < v.toNat → writeCell .settings 0 0 v s = (s, some .range))) ∧
  (∀ s : State,
    (s.zdu.rezone.isSome = true → evalConditions s = s) ∧
    (s.zdu.rezone = none →
      let anyO := decide (1 ≤ totalOver s)
      let anyF := decide (1 ≤ totalFault s)
      evalConditions s = { s with
        zdu := { s.zdu with anyOver := anyO, anyFault := anyF }
        transit := s.transit ++
          (if s.zdu.anyOver = anyO then [] else [.conditionEdgeReport .anyOver (if anyO then .entry else .exit)]) ++
          (if s.zdu.anyFault = anyF then [] else [.conditionEdgeReport .anyFault (if anyF then .entry else .exit)]) }))

/-- A host write to a zone entry: manual derate and over-derate of an entry in use are stored when in 0..100 and the
effective derate is updated, a larger value is skipped with RANGE, another field with READ_ONLY, and an entry at or
above the zone count with VACANT. SET ZONE DERATE writes the manual derate of one zone in use, or of every zone in use
as one claim, and updates the effective derates together; a derate above 100 or a zone neither FFH nor in use is
refused with RANGE. That VACANT comes before READ_ONLY and READ_ONLY before RANGE is the model's choice (log 12). -/
def Obligations.ManualDerates : Prop :=
  (∀ (z f : Nat) (v : Word) (s : State),
    (zoneCount s ≤ z → writeCell .zones z f v s = (s, some .vacant)) ∧
    (z < zoneCount s → f ≠ 1 → f ≠ 2 → writeCell .zones z f v s = (s, some .readOnly)) ∧
    (z < zoneCount s → f = 1 ∨ f = 2 → 100 < v.toNat → writeCell .zones z f v s = (s, some .range)) ∧
    (z < zoneCount s → v.toNat ≤ 100 → writeCell .zones z 1 v s =
      (updateEffective [z] (setZone z { zoneEntry z s with manual := v.toNat } s), none)) ∧
    (z < zoneCount s → v.toNat ≤ 100 → writeCell .zones z 2 v s =
      (updateEffective [z] (setZone z { zoneEntry z s with overDerate := v.toNat } s), none))) ∧
  (∀ (z d : Byte) (s : State), PortFree s → zoneCount s ≤ 32 →
    (100 < d.toNat ∨ (z ≠ 0xFF ∧ zoneCount s ≤ z.toNat) →
      exec (.setZoneDerate [2, z, d]) s = .next (answered 0x31 (refusedFor .range) s)) ∧
    (d.toNat ≤ 100 → z ≠ 0xFF → z.toNat < zoneCount s →
      exec (.setZoneDerate [2, z, d]) s = .next (replied 0x31 (doneWith [])
        (updateEffective [z.toNat] (setZone z.toNat { zoneEntry z.toNat s with manual := d.toNat } (atOwner 0x31 s))))) ∧
    (d.toNat ≤ 100 → ∃ t, exec (.setZoneDerate [2, 0xFF, d]) s = .next (replied 0x31 (doneWith [])
        (updateEffective (List.range (zoneCount s)) t)) ∧
      t = { atOwner 0x31 s with zdu := { s.zdu with zones := t.zdu.zones } } ∧
      ∀ y, y < 32 → zoneEntry y t = if y < zoneCount s then { zoneEntry y s with manual := d.toNat } else zoneEntry y s))

/-- REZONE's checks in their order, and its start: the list is installed, manual derates and over-derates are kept,
tallies and derived fields reset, each zone below n frozen at its old effective derate or, where it was not in use, at
the least of all old ones; LSQ is told, the owners are ordered to sweep, and the answer is STARTED. The claims of earlier
events, still in transit, are taken first, oldest first, each as its command takes it, so that none counts in the new
zones: the model's form of R85 and R146, by which an event's claims go to the ZDU as part of it (DEDUCED, log 30). That
the sweep cursors stand at the start from that moment is the model's choice (log 9). -/
def Obligations.RezoneIsTaken : Prop :=
  let claim := fun m : Instr =>
    (∃ z, m = .overEnter z ∨ m = .overLeave z ∨ m = .faultEnter z ∨ m = .faultLeave z) ∨ ∃ z v n, m = .crackDerate z v n
  (∀ s : State, (∀ m ∈ s.transit, ¬ claim m) → takeClaims s = s) ∧
  (∀ (s : State) (pre : List Instr) (m : Instr) (post : List Instr), s.resetHeld = false →
    s.transit = pre ++ m :: post → (∀ x ∈ pre, ¬ claim x) → claim m →
    ∃ t, exec m s = .next t ∧ takeClaims s = takeClaims t) ∧
  ∀ (n : Byte) (rest : List Byte) (s : State), PortFree s → rest.length + 1 ≤ 64 →
    let frame := byteOf (rest.length + 1) :: n :: rest
    let bs := stationsOf rest
    let lawful := n.toNat ≤ 32 ∧ (∀ b ∈ bs, 1 ≤ b ∧ b ≤ 65000) ∧ bs.Pairwise (· < ·)
    let c := takeClaims s
    let atRest := s.lsq.seq = .idle ∨ s.lsq.seq = .ready ∨ s.lsq.seq = .halted
    (n = 0 → exec (.rezone frame) s = .next (answered 0x30 (refusedFor .range) s)) ∧
    (n ≠ 0 → rest.length ≠ 2 * (n.toNat - 1) → exec (.rezone frame) s = .next (answered 0x30 (refusedFor .format) s)) ∧
    (n ≠ 0 → rest.length = 2 * (n.toNat - 1) →
      (¬ lawful → exec (.rezone frame) s = .next (answered 0x30 (refusedFor .range) s)) ∧
      (lawful → ¬ atRest → exec (.rezone frame) s = .next (answered 0x30 (refusedFor .state) s)) ∧
      (lawful → atRest → s.zdu.rezone.isSome = true →
        exec (.rezone frame) s = .next (answered 0x30 (refusedFor .pending) s)) ∧
      (lawful → atRest → s.zdu.rezone = none → ∃ t, exec (.rezone frame) s = .next (answered 0x30 startedReply t) ∧
        bs.length + 1 = n.toNat ∧
        t = { s with
          zdu := { c.zdu with boundaries := bs, zones := t.zdu.zones, rezone := some { sweepCount := 0 } }
          gsc := { s.gsc with sweep := .ordered }, cwu := { s.cwu with sweep := .ordered }
          ach := { s.ach with sweep := .ordered }
          transit := c.transit ++ [.rezoneStateNotice true, .rezoneSweep .gsc, .rezoneSweep .cwu, .rezoneSweep .ach] } ∧
        ∀ z, z < 32 → zoneEntry z t =
          { manual := (zoneEntry z c).manual, overDerate := (zoneEntry z c).overDerate
            effective :=
              if z < n.toNat then
                if z < zoneCount c then (zoneEntry z c).effective
                else ((List.range (zoneCount c)).map fun y => (zoneEntry y c).effective).foldl min (zoneEntry 0 c).effective
              else 100 }))

/-- SWEPT adds 1 to the sweep count of an open REZONE; SWEEP_DONE marks its owner, and with all three in the REZONE
completes: the derates are updated, the trip compared, the conditions evaluated, LSQ is told of the closing and
OP_DONE is raised. With no REZONE open both change nothing (the model's choice, log 26). -/
def Obligations.RezoneCompletes : Prop :=
  (∀ (o : Owner) (s : State), s.resetHeld = false → s.zdu.rezone = none →
    exec (.swept o) s = .next { s with transit := s.transit.erase (.swept o) } ∧
    exec (.sweepDone o) s = .next { s with transit := s.transit.erase (.sweepDone o) }) ∧
  ∀ (o : Owner) (r : Rezone) (s : State), s.resetHeld = false → s.zdu.rezone = some r →
    let marked : Rezone :=
      { sweepCount := r.sweepCount, gscDone := r.gscDone || o == .gsc, cwuDone := r.cwuDone || o == .cwu,
        achDone := r.achDone || o == .ach }
    (exec (.swept o) s = .next { s with
      transit := s.transit.erase (.swept o)
      zdu := { s.zdu with rezone := some { r with sweepCount := r.sweepCount + 1 } } }) ∧
    (¬ (marked.gscDone = true ∧ marked.cwuDone = true ∧ marked.achDone = true) →
      exec (.sweepDone o) s = .next { s with
        transit := s.transit.erase (.sweepDone o), zdu := { s.zdu with rezone := some marked } }) ∧
    (marked.gscDone = true → marked.cwuDone = true → marked.achDone = true →
      let closed := { s with transit := s.transit.erase (.sweepDone o), zdu := { s.zdu with rezone := none } }
      let t := evalConditions (compareTrip (updateEffective (List.range (zoneCount s)) closed))
      exec (.sweepDone o) s = .next { t with
        transit := t.transit ++ [.attentionEventReport .opDone, .rezoneStateNotice false] })

/-- The owners' sweeps: the order puts the cursor at record 0, CWU clearing its tallies; each swept record is decoded
under the list installed now, with the claims of its present state, and SWEPT; the last brings SWEEP_DONE. -/
def Obligations.OwnersSweepTheirRecords : Prop :=
  (∀ s : State, s.resetHeld = false →
    exec (.rezoneSweep .gsc) s = .next { s with
      transit := s.transit.erase (.rezoneSweep .gsc) ++ [.sweepRecord .gsc], gsc := { s.gsc with sweep := .at 0 } } ∧
    exec (.rezoneSweep .ach) s = .next { s with
      transit := s.transit.erase (.rezoneSweep .ach) ++ [.sweepRecord .ach], ach := { s.ach with sweep := .at 0 } } ∧
    exec (.rezoneSweep .cwu) s = .next { s with
      transit := s.transit.erase (.rezoneSweep .cwu) ++ [.sweepRecord .cwu]
      cwu := { s.cwu with sweep := .at 0, tallies := Table.fill _ {} } }) ∧
  (∀ (a : Fin Config.actuators) (s : State), s.resetHeld = false → s.ach.sweep = .at a.val →
    exec (.sweepRecord .ach) s = .next { s with
      ach := { s.ach with
        acts := s.ach.acts.set a { act a s with zone := decodeStation (act a s).station s }
        sweep := if a.val = 7 then .none else .at (a.val + 1) }
      transit := s.transit.erase (.sweepRecord .ach) ++ [.swept .ach] ++
        [if a.val = 7 then .sweepDone .ach else .sweepRecord .ach] }) ∧
  (∀ (i : Fin Config.gauges) (s : State), s.resetHeld = false → s.gsc.sweep = .at i.val →
    let g := gauge i s
    let z := decodeStation g.station s
    exec (.sweepRecord .gsc) s = .next { s with
      gsc := { s.gsc with
        gauges := if g.state = .vacant then s.gsc.gauges else s.gsc.gauges.set i { g with zone := z }
        sweep := if i.val = 511 then .none else .at (i.val + 1) }
      transit := s.transit.erase (.sweepRecord .gsc) ++
        (if g.state ≠ .vacant ∧ (g.state = .over ∨ g.overHeld = true) then [.overEnter z] else []) ++
        (if g.state ∈ [.fault .open, .fault .range, .fault .link, .fault .shunt] then [.faultEnter z] else []) ++
        [.swept .gsc] ++ [if i.val = 511 then .sweepDone .gsc else .sweepRecord .gsc] }) ∧
  (∀ (l : Fin Config.loops) (s : State), s.resetHeld = false → s.cwu.sweep = .at l.val →
    exec (.sweepRecord .cwu) s = .next { s with
      cwu := { s.cwu with
        loops := s.cwu.loops.set l { loop l s with zone := decodeStation (loop l s).station s }, sweep := .at (l.val + 1) }
      transit := s.transit.erase (.sweepRecord .cwu) ++ [.swept .cwu, .sweepRecord .cwu] }) ∧
  (∀ (c : Fin Config.sensors) (s : State), s.resetHeld = false → s.cwu.sweep = .at (24 + c.val) →
    exec (.sweepRecord .cwu) s = .next { s with
      cwu := { s.cwu with
        sensors := s.cwu.sensors.set c { sensor c s with zone := decodeStation (sensor c s).station s }
        sweep := .at (24 + c.val + 1) }
      transit := s.transit.erase (.sweepRecord .cwu) ++ [.swept .cwu, .sweepRecord .cwu] }) ∧
  ∀ (i : Fin Config.cracks) (s : State), s.resetHeld = false → s.cwu.sweep = .at (40 + i.val) →
    let r := crack i s
    let z := decodeStation r.seed s
    let swept : State := { s with cwu := { s.cwu with
      cracks := s.cwu.cracks.set i { r with zone := z }, sweep := .at (40 + i.val + 1) } }
    exec (.sweepRecord .cwu) s = .next { s with
      cwu := { s.cwu with
        cracks := if r.state = .vacant then s.cwu.cracks else s.cwu.cracks.set i { r with zone := z }
        sweep := if i.val = 47 then .none else .at (40 + i.val + 1) }
      transit := s.transit.erase (.sweepRecord .cwu) ++ (if r.state = .vacant then [] else [crackClaim swept z]) ++
        [.swept .cwu] ++ [if i.val = 47 then .sweepDone .cwu else .sweepRecord .cwu] }

/-- Every step keeps each effective derate the least of its zone's three derates outside a REZONE. -/
def Obligations.EffectiveDeratesStayTheLeast : Prop :=
  ∀ s t : State, DeratesTrue s → step s = .next t → DeratesTrue t

/-! ### The Actuator Channels (chapter 2) -/

/-- A SET drive command: sent, with the next tag and the target held within the actuator's limits, to a STANDBY
actuator on a LIVE link and to a DRIVEN or HOLDING one outside a free wait, LSQ recording the tag; FAULT(LINK) with
the hold owed for STANDBY on a link not LIVE; ACT_FAULT again for FAULT; dropped otherwise, no tag being awaited then. -/
def Obligations.SetDriveCommand : Prop :=
  ∀ (a : Fin Config.actuators) (target : Int) (ramp : Nat) (s : State), s.resetHeld = false →
    let r := act a s
    let rest := s.transit.erase (.setCommand a target ramp)
    let tag := r.lastTag + 1
    let limited := max r.tensLimit (min r.compLimit target)
    let noTag := { s.lsq with awaited := s.lsq.awaited.set a none }
    ((r.state = .standby ∧ r.link = .live) ∨ ((r.state = .driven ∨ r.state = .holding) ∧ r.freeWait = false) →
      exec (.setCommand a target ramp) s = .next { s with
        transit := rest
        sent := s.sent ++ [⟨.drive a, sealUnit ([0x01, tag] ++ le16Int limited ++ le16 ramp)⟩]
        ach := { s.ach with acts := s.ach.acts.set a { r with
          state := .driven, lastTag := tag, lastTarget := limited, lastRamp := ramp, settledMark := false
          followRun := 0, settleTimer := some (ramp + r.settleAllow) } }
        lsq := { s.lsq with
          awaited := s.lsq.awaited.set a (some tag), commanded := s.lsq.commanded.set a target } }) ∧
    (r.state = .standby → r.link ≠ .live → exec (.setCommand a target ramp) s = .next { s with
      transit := rest ++ [.actFault a .link, .attentionEventReport .actFault]
      ach := { s.ach with acts := s.ach.acts.set a { r with
        state := .fault .link, settleTimer := none, settledMark := false, holdOwed := true } }
      lsq := noTag }) ∧
    (∀ c, r.state = .fault c → exec (.setCommand a target ramp) s = .next { s with
      transit := rest ++ [.actFault a c], lsq := noTag }) ∧
    (r.state = .off ∨ ((r.state = .driven ∨ r.state = .holding) ∧ r.freeWait = true) →
      exec (.setCommand a target ramp) s = .next { s with transit := rest, lsq := noTag })

/-- A HOLD drive command is obeyed in DRIVEN outside a free wait, with a new tag, and ignored otherwise. A FREE starts
a free wait on a LIVE link; on another link the actuator is STANDBY, or stays in FAULT, and FREED is sent at once; in
STANDBY FREED alone is sent; in OFF or a free wait it is ignored. -/
def Obligations.HoldAndFreeDriveCommands : Prop :=
  ∀ (a : Fin Config.actuators) (s : State), s.resetHeld = false →
    let r := act a s
    let inFault := r.state ∈ [.fault .link, .fault .card, .fault .following, .fault .stroke, .fault .slow]
    let tag := r.lastTag + 1
    let heldRest := s.transit.erase (.holdCommand a)
    let rest := s.transit.erase (.freeCommand a)
    (r.state = .driven → r.freeWait = false → exec (.holdCommand a) s = .next { s with
      transit := heldRest
      sent := s.sent ++ [⟨.drive a, sealUnit [0x02, tag]⟩]
      ach := { s.ach with acts := s.ach.acts.set a { r with
        state := .holding, settleTimer := none, settledMark := false, followRun := 0, lastTag := tag } } }) ∧
    (r.state ≠ .driven ∨ r.freeWait = true → exec (.holdCommand a) s = .next { s with transit := heldRest }) ∧
    (r.state = .driven ∨ r.state = .holding ∨ inFault → r.freeWait = false → r.link = .live →
      exec (.freeCommand a) s = .next { s with
        transit := rest
        sent := s.sent ++ [⟨.drive a, sealUnit [0x03, tag]⟩]
        ach := { s.ach with acts := s.ach.acts.set a { r with
          settleTimer := none, freeWait := true, freeTimer := some s.ach.freeTime, lastTag := tag } } }) ∧
    (r.state = .driven ∨ r.state = .holding → r.freeWait = false → r.link ≠ .live →
      exec (.freeCommand a) s = .next { s with
        transit := rest ++ [.freed a], ach := { s.ach with acts := s.ach.acts.set a { r with state := .standby } } }) ∧
    (r.freeWait = false → r.state = .standby ∨ (inFault ∧ r.link ≠ .live) →
      exec (.freeCommand a) s = .next { s with transit := rest ++ [.freed a] }) ∧
    (r.state = .off ∨ r.freeWait = true → exec (.freeCommand a) s = .next { s with transit := rest })

/-- A good REPORT is stored, restarts the report timer and makes the link LIVE. In DRIVEN and HOLDING outside a free
wait the card and stroke checks come first; in DRIVEN the settle follows, and after it the following check, whose
third report outside the limit in a row is FAULT(FOLLOWING). Entering FAULT sends HOLD, ACT_FAULT and attention. -/
def Obligations.ReportJudgedWhileDriven : Prop :=
  ∀ (a : Fin Config.actuators) (unit : List Byte) (rep : CardReport) (s : State), s.resetHeld = false →
    parseReport unit = some rep → (act a s).freeWait = false →
    let r := act a s
    let r1 := { r with
      repForce := rep.force, repStroke := rep.stroke, repStatus := some rep.status, repEcho := rep.echo
      reportTimer := some s.ach.reportTimeout, link := .live, holdOwed := false }
    let back : List Instr := if r.link = .lost then [.linkReport (.drive a) false] else []
    let keep := fun x : Actuator => { s with ach := { s.ach with acts := s.ach.acts.set a x }, transit := s.transit ++ back }
    let enter := fun (x : Actuator) (c : ActCause) => { s with
      ach := { s.ach with acts := s.ach.acts.set a { x with
        state := .fault c, settleTimer := none, settledMark := false, lastTag := r.lastTag + 1 } }
      sent := s.sent ++ [⟨.drive a, sealUnit [0x02, r.lastTag + 1]⟩]
      transit := s.transit ++ back ++ [.actFault a c, .attentionEventReport .actFault] }
    let bad := rep.status = .cardFault ∨ (rep.status = .free ∧ rep.echo = r.lastTag)
    let out := rep.stroke < r.strokeMin ∨ r.strokeMax < rep.stroke
    let run := if r.followLimit < (rep.force - r.lastTarget).natAbs then r.followRun + 1 else 0
    (r.state = .driven ∨ r.state = .holding → bad → exec (.report a unit) s = .next (enter r1 .card)) ∧
    (r.state = .driven ∨ r.state = .holding → ¬ bad → out → exec (.report a unit) s = .next (enter r1 .stroke)) ∧
    (r.state = .holding → ¬ bad → ¬ out → exec (.report a unit) s = .next (keep r1)) ∧
    (r.state = .driven → ¬ bad → ¬ out → r.settledMark = false →
      (rep.status = .settled → rep.echo = r.lastTag → exec (.report a unit) s = .next { s with
        ach := { s.ach with acts := s.ach.acts.set a { r1 with settledMark := true, settleTimer := none } }
        transit := s.transit ++ back ++ [.settled a r.lastTag] }) ∧
      (rep.status ≠ .settled ∨ rep.echo ≠ r.lastTag → exec (.report a unit) s = .next (keep r1))) ∧
    (r.state = .driven → ¬ bad → ¬ out → r.settledMark = true →
      (run < 3 → exec (.report a unit) s = .next (keep { r1 with followRun := run })) ∧
      (3 ≤ run → exec (.report a unit) s = .next (enter { r1 with followRun := run } .following)))

/-- The check of a unit is the sum of its bytes modulo 65536, low byte first, in its last two bytes; a unit is a good
REPORT exactly when its bytes are those of 11.4 and their check. A unit that fails its check changes nothing. In OFF,
STANDBY and FAULT a good REPORT is stored. In FAULT with the hold owed, the first one that makes the link LIVE is answered
with the late HOLD where it is RAMPING, SETTLED or CARD_FAULT; the hold is owed no more, and no other REPORT in FAULT sends
anything. In a free wait a current FREE ends the wait with FREED, CARD_FAULT ends it in FAULT(CARD) without a HOLD, and any
other report is stored. -/
def Obligations.ReportInTheOtherStates : Prop :=
  (∀ body : List Byte, let sum := (body.map fun b => b.toNat).sum % 65536
    sealUnit body = body ++ [BitVec.ofNat 8 sum, BitVec.ofNat 8 (sum / 256)]) ∧
  (∀ (unit : List Byte) (rep : CardReport), parseReport unit = some rep ↔ ∃ status f0 f1 s0 s1 : Byte,
    unit = sealUnit [0x81, rep.echo, status, f0, f1, s0, s1] ∧
    (status, rep.status) ∈ [((0 : Byte), CardStatus.ramping), (1, .settled), (2, .holding), (3, .free), (4, .cardFault)] ∧
    rep.force = (BitVec.ofNat 16 (f0.toNat + 256 * f1.toNat)).toInt ∧
    rep.stroke = (BitVec.ofNat 16 (s0.toNat + 256 * s1.toNat)).toInt) ∧
  (∀ (a : Fin Config.actuators) (unit : List Byte) (s : State), s.resetHeld = false → parseReport unit = none →
    exec (.report a unit) s = .next s) ∧
  ∀ (a : Fin Config.actuators) (unit : List Byte) (rep : CardReport) (s : State), s.resetHeld = false →
    parseReport unit = some rep →
    let r := act a s
    let inFault := r.state ∈ [.fault .link, .fault .card, .fault .following, .fault .stroke, .fault .slow]
    let r1 := { r with
      repForce := rep.force, repStroke := rep.stroke, repStatus := some rep.status, repEcho := rep.echo
      reportTimer := some s.ach.reportTimeout, link := .live, holdOwed := false }
    let back : List Instr := if r.link = .lost then [.linkReport (.drive a) false] else []
    let keep := fun (x : Actuator) (ms : List Instr) =>
      { s with ach := { s.ach with acts := s.ach.acts.set a x }, transit := s.transit ++ back ++ ms }
    let moving := rep.status = .ramping ∨ rep.status = .settled ∨ rep.status = .cardFault
    let isFree := rep.status = .free ∧ rep.echo = r.lastTag
    let ended := { r1 with freeWait := false, freeTimer := none }
    (r.state = .off ∨ r.state = .standby → exec (.report a unit) s = .next (keep r1 [])) ∧
    (inFault → r.freeWait = false →
      (r.link = .live ∨ r.holdOwed = false ∨ ¬ moving → exec (.report a unit) s = .next (keep r1 [])) ∧
      (r.link ≠ .live → r.holdOwed = true → moving → exec (.report a unit) s = .next { keep { r1 with lastTag := r.lastTag + 1 } [] with
        sent := s.sent ++ [⟨.drive a, sealUnit [0x02, r.lastTag + 1]⟩] })) ∧
    (inFault → r.freeWait = true →
      (rep.status = .cardFault ∨ isFree → exec (.report a unit) s = .next (keep ended [.freed a])) ∧
      (rep.status ≠ .cardFault → ¬ isFree → exec (.report a unit) s = .next (keep r1 []))) ∧
    (r.state = .driven ∨ r.state = .holding → r.freeWait = true →
      (rep.status = .cardFault → exec (.report a unit) s = .next
        (keep { ended with state := .fault .card } [.freed a, .attentionEventReport .actFault])) ∧
      (isFree → exec (.report a unit) s = .next (keep { ended with state := .standby } [.freed a])) ∧
      (rep.status ≠ .cardFault → ¬ isFree → exec (.report a unit) s = .next (keep r1 [])))

/-- The actuator timers. Report timer: the link is LOST and reported; DRIVEN and HOLDING enter FAULT(LINK) with no
HOLD, which stays owed; a free wait ends as by link loss; other states stand. That a FAULT actuator whose free wait the
loss ends is owed the hold is the model's reading (DEDUCED, log 13). Settle timer: a DRIVEN actuator enters FAULT(SLOW).
Free timer: the wait ends with FREED, in FAULT(SLOW) from DRIVEN or HOLDING. A stopped timer has no expiry (the model's
form, log 5). -/
def Obligations.ActuatorTimersExpire : Prop :=
  ∀ (a : Fin Config.actuators) (s : State), s.resetHeld = false →
    let r := act a s
    let inFault := r.state ∈ [.fault .link, .fault .card, .fault .following, .fault .stroke, .fault .slow]
    let serving := r.state = .driven ∨ r.state = .holding
    let put := fun (x : Actuator) (ms : List Instr) =>
      { s with ach := { s.ach with acts := s.ach.acts.set a x }, transit := s.transit ++ ms }
    let lost := { r with link := .lost, reportTimer := none }
    let lostMsg : Instr := .linkReport (.drive a) true
    (r.reportTimer = none → exec (.reportTimerExpiry a) s = .next s) ∧
    (r.reportTimer ≠ none →
      (serving → r.freeWait = false → exec (.reportTimerExpiry a) s = .next
        (put { lost with state := .fault .link, settleTimer := none, settledMark := false, holdOwed := true }
          [lostMsg, .actFault a .link, .attentionEventReport .actFault])) ∧
      (serving → r.freeWait = true → exec (.reportTimerExpiry a) s = .next
        (put { lost with state := .standby, freeWait := false, freeTimer := none } [lostMsg, .freed a])) ∧
      (inFault → r.freeWait = true → exec (.reportTimerExpiry a) s = .next
        (put { lost with freeWait := false, freeTimer := none, holdOwed := true } [lostMsg, .freed a])) ∧
      (r.state = .off ∨ r.state = .standby ∨ (inFault ∧ r.freeWait = false) →
        exec (.reportTimerExpiry a) s = .next (put lost [lostMsg]))) ∧
    (r.settleTimer = none → exec (.settleTimerExpiry a) s = .next s) ∧
    (r.settleTimer ≠ none → r.state = .driven → r.link = .live → exec (.settleTimerExpiry a) s = .next
      { put { r with
            state := .fault .slow, settleTimer := none, settledMark := false, holdOwed := false, lastTag := r.lastTag + 1 }
          [.actFault a .slow, .attentionEventReport .actFault] with
        sent := s.sent ++ [⟨.drive a, sealUnit [0x02, r.lastTag + 1]⟩] }) ∧
    (r.freeTimer = none → exec (.freeTimerExpiry a) s = .next s) ∧
    (r.freeTimer ≠ none → r.freeWait = true →
      (serving → exec (.freeTimerExpiry a) s = .next
        (put { r with state := .fault .slow, freeWait := false, freeTimer := none }
          [.freed a, .attentionEventReport .actFault])) ∧
      (inFault → exec (.freeTimerExpiry a) s = .next (put { r with freeWait := false, freeTimer := none } [.freed a])))

/-- ENABLE ACTUATOR, DISABLE ACTUATOR and CLEAR FAULT with their checks in order: state and sequencer, link, card
status, station; a number above 7 is refused with RANGE. -/
def Obligations.ActuatorRequests : Prop :=
  (∀ (b : Byte) (s : State), PortFree s → 8 ≤ b.toNat →
    exec (.enableActuator [1, b]) s = .next (answered 0x40 (refusedFor .range) s) ∧
    exec (.disableActuator [1, b]) s = .next (answered 0x41 (refusedFor .range) s) ∧
    exec (.clearFault [1, b]) s = .next (answered 0x42 (refusedFor .range) s)) ∧
  ∀ (a : Fin Config.actuators) (b : Byte) (s : State), PortFree s → b.toNat = a.val →
    let r := act a s
    let inFault := r.state ∈ [.fault .link, .fault .card, .fault .following, .fault .stroke, .fault .slow]
    let shared := ∃ b, b ≠ a ∧ (act b s).state ≠ .off ∧ (act b s).station = r.station
    let put := fun x : Actuator => { s with ach := { s.ach with acts := s.ach.acts.set a x } }
    let standby := { r with state := .standby, followRun := 0, settledMark := false, freeWait := false }
    (r.state ≠ .off ∨ s.lsq.seq ≠ .idle →
      exec (.enableActuator [1, b]) s = .next (answered 0x40 (refusedFor .state) s)) ∧
    (r.state = .off → s.lsq.seq = .idle →
      (r.link ≠ .live → exec (.enableActuator [1, b]) s = .next (answered 0x40 (refusedFor .link) s)) ∧
      (r.link = .live → r.repStatus ≠ some .free →
        exec (.enableActuator [1, b]) s = .next (answered 0x40 (refusedFor .state) s)) ∧
      (r.link = .live → r.repStatus = some .free → shared →
        exec (.enableActuator [1, b]) s = .next (answered 0x40 (refusedFor .station) s)) ∧
      (r.link = .live → r.repStatus = some .free → ¬ shared →
        exec (.enableActuator [1, b]) s = .next (answered 0x40 (doneWith []) (put standby)))) ∧
    (r.state = .standby → s.lsq.seq = .idle →
      exec (.disableActuator [1, b]) s = .next (answered 0x41 (doneWith []) (put { r with state := .off }))) ∧
    (r.state ≠ .standby ∨ s.lsq.seq ≠ .idle →
      exec (.disableActuator [1, b]) s = .next (answered 0x41 (refusedFor .state) s)) ∧
    (¬ inFault ∨ s.lsq.seq ≠ .idle → exec (.clearFault [1, b]) s = .next (answered 0x42 (refusedFor .state) s)) ∧
    (inFault → s.lsq.seq = .idle →
      (r.link ≠ .live → exec (.clearFault [1, b]) s = .next (answered 0x42 (refusedFor .link) s)) ∧
      (r.link = .live → r.repStatus ≠ some .free →
        exec (.clearFault [1, b]) s = .next (answered 0x42 (refusedFor .state) s)) ∧
      (r.link = .live → r.repStatus = some .free →
        exec (.clearFault [1, b]) s = .next (answered 0x42 (doneWith []) (put standby))))

/-- Host writes to an actuator record, to a bank and to the settings of ACH and LSQ: the states that take each field,
its range and the relations between fields, the reason each skip carries, and what a taken write stores. -/
def Obligations.LoadSideFieldWrites : Prop :=
  (∀ (a : Fin Config.actuators) (v : Word) (s : State),
    let r := act a s
    let n := v.toNat
    let x := v.toInt
    let rest := r.state = .off ∨ r.state = .standby
    let put := fun y : Actuator => ({ s with ach := { s.ach with acts := s.ach.acts.set a y } }, (none : Option Reason))
    let atRest := fun (f : Nat) (ok : Prop) (y : Actuator) =>
      (¬ rest → writeCell .actuators a.val f v s = (s, some .state)) ∧
      (rest → ok → writeCell .actuators a.val f v s = put y) ∧
      (rest → ¬ ok → writeCell .actuators a.val f v s = (s, some .range))
    let always := fun (f : Nat) (ok : Prop) (y : Actuator) =>
      (ok → writeCell .actuators a.val f v s = put y) ∧ (¬ ok → writeCell .actuators a.val f v s = (s, some .range))
    let shared := ∃ b, b ≠ a ∧ (act b s).state ≠ .off ∧ (act b s).station = n
    (¬ rest → writeCell .actuators a.val 0 v s = (s, some .state)) ∧
    (rest → 65000 < n → writeCell .actuators a.val 0 v s = (s, some .range)) ∧
    (r.state = .standby → n ≤ 65000 → shared → writeCell .actuators a.val 0 v s = (s, some .station)) ∧
    (rest → n ≤ 65000 → r.state = .off ∨ ¬ shared →
      writeCell .actuators a.val 0 v s = put { r with station := n, zone := decodeStation n s }) ∧
    atRest 3 (n ≤ 32000 ∧ r.restLoad ≤ n) { r with compLimit := n } ∧
    atRest 4 (-32000 ≤ x ∧ x ≤ 0 ∧ x ≤ r.restLoad) { r with tensLimit := x } ∧
    atRest 5 (r.tensLimit ≤ x ∧ x ≤ r.compLimit) { r with restLoad := x } ∧
    always 6 (1 ≤ n ∧ n ≤ 10000) { r with followLimit := n } ∧
    always 7 (n ≤ 5000) { r with settleAllow := n } ∧
    atRest 8 (-32000 ≤ x ∧ x ≤ 32000 ∧ x < r.strokeMax) { r with strokeMin := x } ∧
    atRest 9 (-32000 ≤ x ∧ x ≤ 32000 ∧ r.strokeMin < x) { r with strokeMax := x } ∧
    ∀ f, f ∉ [0, 3, 4, 5, 6, 7, 8, 9] → writeCell .actuators a.val f v s = (s, some .readOnly)) ∧
  (∀ (v : Word) (s : State),
    let b := standbyBank s
    let n := v.toNat
    let x := v.toInt
    let field := fun (f : Nat) (ok : Prop) (y : Bank) =>
      (s.lsq.swapPending = true → writeCell .standbyBank 0 f v s = (s, some .swapPending)) ∧
      (s.lsq.swapPending = false → ok → writeCell .standbyBank 0 f v s =
        ({ s with lsq := s.lsq.setBank s.lsq.active.other { y with state := .editing } }, none)) ∧
      (s.lsq.swapPending = false → ¬ ok → writeCell .standbyBank 0 f v s = (s, some .range))
    let force := -32000 ≤ x ∧ x ≤ 32000
    field 1 (1 ≤ n ∧ n ≤ 16) { b with len := n } ∧
    (∀ k, k < 16 → field (2 + k) force { b with cells := b.cells.setD k x }) ∧
    field 18 force { b with bed := x } ∧ field 19 (n ≤ 7) { b with lead := n } ∧ field 20 (n ≤ 7) { b with trail := n } ∧
    field 21 (n ≤ 14) { b with endCount := n } ∧
    (∀ k, k < 14 → field (22 + k) force { b with ends := b.ends.setD k x }) ∧
    field 36 (10 ≤ n ∧ n ≤ 10000) { b with ramp := n } ∧ field 37 (10 ≤ n ∧ n ≤ 60000) { b with dwell := n } ∧
    field 38 (n ≤ 1) { b with dir := if n = 0 then .forward else .reverse } ∧
    field 39 (n ≤ 1) { b with shuttle := decide (n = 1) } ∧ field 40 True { b with target := n } ∧
    (∀ f, f = 0 ∨ 40 < f → writeCell .standbyBank 0 f v s = (s, some .readOnly)) ∧
    ∀ f, writeCell .activeBank 0 f v s = (s, some .bankActive)) ∧
  ∀ (v : Word) (s : State),
    let n := v.toNat
    let field := fun (f lo hi : Nat) (t : State) =>
      (lo ≤ n → n ≤ hi → writeCell .settings 0 f v s = (t, none)) ∧
      (n < lo ∨ hi < n → writeCell .settings 0 f v s = (s, some .range))
    field 2 5 200 { s with ach := { s.ach with reportTimeout := n } } ∧
    field 3 1000 60000 { s with ach := { s.ach with freeTime := n } } ∧
    field 4 100 30000 { s with lsq := { s.lsq with restRamp := n } } ∧
    field 5 10 10000 { s with lsq := { s.lsq with derateRamp := n } } ∧
    field 6 0 1 { s with lsq := { s.lsq with intervalAuto := decide (n = 0) } } ∧
    field 7 1 255 { s with lsq := { s.lsq with intervalLen := n } } ∧
    ∀ f, f ∉ [0, 2, 3, 4, 5, 6, 7, 13, 18, 19, 20, 21, 22, 23, 24, 25, 26, 27] →
      writeCell .settings 0 f v s = (s, some .readOnly)

/-! ### The pattern banks (chapter 3) -/

/-- The released line holds the actuators not in OFF, each once with its station, by ascending station; the pattern
force of a line place is the end load of a held actuator, and of a travel actuator the cell the envelope lays over its
slot, or the bed load. Targets: pattern force times scale times the effective derate of the actuator's zone, divided
by 10000 toward zero; with scale and derate at most 100 a target lies between 0 and the pattern force. -/
def Obligations.PatternForcesAndTargets : Prop :=
  ((∀ s : State,
    ((formLine s).Pairwise fun l k => l.station ≤ k.station) ∧ ((formLine s).map LinePlace.act).Nodup ∧
    ∀ l : LinePlace, l ∈ formLine s ↔ (act l.act s).state ≠ .off ∧ l.station = (act l.act s).station) ∧
  ∀ (b : Bank) (n p i : Nat) (d : Direction), b.lead + b.trail < n → i < n →
    let slot := match d with
      | .forward => i - b.lead
      | .reverse => n - b.trail - 1 - i
    (i < b.lead → patternForce b n d p i = b.ends.getD i 0) ∧
    (n - b.trail ≤ i → patternForce b n d p i = b.ends.getD (b.lead + (i - (n - b.trail))) 0) ∧
    (b.lead ≤ i → i < n - b.trail → slot ≤ p → p - slot < b.len →
      patternForce b n d p i = b.cells.getD (p - slot) 0) ∧
    (b.lead ≤ i → i < n - b.trail → p < slot ∨ b.len ≤ p - slot → patternForce b n d p i = b.bed)) ∧
  ((∀ (s : State) (l : LinePlace) (i : Nat), placeTarget s l i =
    (patternForce (activeBank s) (theLine s).length s.lsq.direction s.lsq.position i * s.lsq.scale *
      effectiveDerate (act l.act s).zone s).tdiv 10000) ∧
  ∀ (force : Int) (scale derate : Nat), scale ≤ 100 → derate ≤ 100 →
    (0 ≤ force → 0 ≤ scaledForce force scale derate ∧ scaledForce force scale derate ≤ force) ∧
    (force ≤ 0 → force ≤ scaledForce force scale derate ∧ scaledForce force scale derate ≤ 0))

/-- Validation's checks in order: the envelope length, the times, the cut, the end count, then the first cell, the bed
load and the first end load outside the limits of an actuator that would carry it. -/
def Obligations.ValidationFindsTheFirstFailing : Prop :=
  ∀ (b : Bank) (line : List LinePlace) (s : State),
    let times := 10 ≤ b.ramp ∧ b.ramp ≤ 10000 ∧ 10 ≤ b.dwell ∧ b.dwell ≤ 60000
    let travel := (line.drop b.lead).take (line.length - b.lead - b.trail)
    let held := line.take b.lead ++ line.drop (line.length - b.trail)
    let fits := fun (f : Int) (l : LinePlace) => (act l.act s).tensLimit ≤ f ∧ f ≤ (act l.act s).compLimit
    (b.len = 0 → validate b line s = some { item := .envelope }) ∧
    (b.len ≠ 0 → ¬ times → validate b line s = some { item := .times }) ∧
    (b.len ≠ 0 → times → line.length ≤ b.lead + b.trail → validate b line s = some { item := .travel }) ∧
    (b.len ≠ 0 → times → b.lead + b.trail < line.length →
      (b.endCount ≠ b.lead + b.trail → validate b line s = some { item := .endCount }) ∧
      (b.endCount = b.lead + b.trail →
        let cellsFit := fun k : Nat => ∀ l ∈ travel, fits (b.cells.getD k 0) l
        let bedFits := ∀ l ∈ travel, fits b.bed l
        (∀ k pre l post, k < b.len → (∀ j, j < k → cellsFit j) → travel = pre ++ l :: post →
          (∀ m ∈ pre, fits (b.cells.getD k 0) m) → ¬ fits (b.cells.getD k 0) l →
          validate b line s = some { item := .cell, index := some k, act := some l.act.val }) ∧
        ((∀ k, k < b.len → cellsFit k) →
          (∀ pre l post, travel = pre ++ l :: post → (∀ m ∈ pre, fits b.bed m) → ¬ fits b.bed l →
            validate b line s = some { item := .bed, act := some l.act.val }) ∧
          (bedFits → ∀ pre l post, held = pre ++ l :: post → (∀ x ∈ pre.zipIdx, fits (b.ends.getD x.2 0) x.1) →
            ¬ fits (b.ends.getD pre.length 0) l →
            validate b line s = some { item := .endLoad, index := some pre.length, act := some l.act.val }) ∧
          (bedFits → (∀ x ∈ held.zipIdx, fits (b.ends.getD x.2 0) x.1) → validate b line s = none))))

/-- COMMIT BANK makes the standby bank VALID or INVALID with its failing item and answers the result; while a swap is
pending it is refused with SWAP_PENDING. CANCEL SWAP ends a pending swap and is refused with STATE where there is
none. SWAP BANK by state: in IDLE, and in READY after a validation, a VALID standby bank is swapped in at once, with
its direction, position 0 and BANK_EVENT; from RUNNING to HALTED the swap becomes pending; ARMING and DISARMING
refuse. That PENDING comes before the refusal of a bank not VALID is the model's order (log 25). -/
def Obligations.BankRequests : Prop :=
  (∀ s : State, PortFree s →
    let standby := s.lsq.active.other
    let put := fun st : BankState => { s with lsq := s.lsq.setBank standby { s.lsq.bank standby with state := st } }
    (s.lsq.swapPending = true → exec (.commitBank [0]) s = .next (answered 0x50 (refusedFor .swapPending) s)) ∧
    (s.lsq.swapPending = false →
      (validate (standbyBank s) (theLine s) s = none →
        exec (.commitBank [0]) s = .next (answered 0x50 (doneWith [0, 0xFF, 0xFF, 0xFF]) (put .valid))) ∧
      (∀ f, validate (standbyBank s) (theLine s) s = some f →
        exec (.commitBank [0]) s = .next (answered 0x50
          (doneWith [1, byteOf f.item.code, optByte f.index, optByte f.act]) (put (.invalid f))))) ∧
    (s.lsq.swapPending = true → exec (.cancelSwap [0]) s =
      .next (answered 0x52 (doneWith []) { s with lsq := { s.lsq with swapPending := false } })) ∧
    (s.lsq.swapPending = false → exec (.cancelSwap [0]) s = .next (answered 0x52 (refusedFor .state) s))) ∧
  (∀ s : State, PortFree s →
    let swapped := { s with
      lsq := { s.lsq with
        active := s.lsq.active.other, direction := (standbyBank s).dir, swapPending := false, position := 0 }
      transit := s.transit ++ [.attentionEventReport .bankEvent] }
    let inFlight := s.lsq.seq ∈ [.running .ramp, .running .dwell, .haltingFinish .ramp, .haltingFinish .dwell,
      .haltingRest, .held .step, .held .rest, .halted]
    ((standbyBank s).state = .valid →
      (s.lsq.seq = .idle → exec (.swapBank [0]) s = .next (answered 0x51 (doneWith []) swapped)) ∧
      (s.lsq.seq = .ready → validate (standbyBank s) (theLine s) s = none →
        exec (.swapBank [0]) s = .next (answered 0x51 (doneWith []) swapped)) ∧
      (∀ f, s.lsq.seq = .ready → validate (standbyBank s) (theLine s) s = some f →
        exec (.swapBank [0]) s = .next (answered 0x51
          { code := .refused, reason := .invalid
            data := [1, byteOf f.item.code, optByte f.index, optByte f.act] } s)) ∧
      (inFlight → s.lsq.swapPending = false → exec (.swapBank [0]) s =
        .next (answered 0x51 (doneWith []) { s with lsq := { s.lsq with swapPending := true } }))) ∧
    (inFlight → s.lsq.swapPending = true → exec (.swapBank [0]) s = .next (answered 0x51 (refusedFor .pending) s)) ∧
    ((standbyBank s).state ≠ .valid → s.lsq.seq = .idle ∨ s.lsq.seq = .ready ∨ (inFlight ∧ s.lsq.swapPending = false) →
      exec (.swapBank [0]) s = .next (answered 0x51 (refusedFor .state) s)) ∧
    (s.lsq.seq = .arming ∨ s.lsq.seq = .disarming →
      exec (.swapBank [0]) s = .next (answered 0x51 (refusedFor .state) s)))

/-! ### The Load Sequencer (chapter 4) -/

/-- ARM's checks in order, and its effect: the line frozen, the direction loaded, position 0, cause NONE, the sets
emptied, rest-load SETs to the whole line, ARMING, SEQ_STATE. The REZONE test is on what the ZDU's last notice told LSQ
(DEDUCED, log 10). -/
def Obligations.ArmChecksAndEffect : Prop :=
  ∀ s : State, PortFree s →
    let line := formLine s
    let fault := ∃ l ∈ line, ∃ c, (act l.act s).state = .fault c
    (s.lsq.seq ≠ .idle → exec (.arm [0]) s = .next (answered 0x21 (refusedFor .state) s)) ∧
    (s.lsq.seq = .idle →
      (s.lsq.rezoneOpen = true → exec (.arm [0]) s = .next (answered 0x21 (refusedFor .rezoneOpen) s)) ∧
      (s.lsq.rezoneOpen = false →
        (line = [] → exec (.arm [0]) s = .next (answered 0x21 (refusedFor .noActuator) s)) ∧
        (fault → exec (.arm [0]) s = .next (answered 0x21 (refusedFor .faultPresent) s)) ∧
        (line ≠ [] → ¬ fault →
          (∀ f, validate (activeBank s) line s = some f → exec (.arm [0]) s = .next (answered 0x21
            { code := .refused, reason := .invalid
              data := [1, byteOf f.item.code, optByte f.index, optByte f.act] } s)) ∧
          (validate (activeBank s) line s = none →
            exec (.arm [0]) s = .next (answered 0x21 (doneWith []) { s with
              lsq := { s.lsq with
                seq := .arming, line := some line, direction := (activeBank s).dir, position := 0, haltCause := .none
                faultSet := 0, awaited := Table.fill _ none, reholdSet := 0, freedSet := 0 }
              transit := s.transit ++
                line.map (fun l => .setCommand l.act (act l.act s).restLoad s.lsq.restRamp) ++
                [.attentionEventReport .seqState] })))))

/-- START in READY and RESUME in HELD or HALTED, with the checks they share in order; taken, the halt cause is NONE,
the re-hold set empty and the step at the position starts, with SEQ_STATE. The REZONE test is on what the ZDU's last notice
told LSQ (DEDUCED, log 10); that the SETs set out before SEQ_STATE is the model's order (log 21). -/
def Obligations.StartAndResume : Prop :=
  ∀ s : State, PortFree s →
    let resumable := s.lsq.seq = .held .step ∨ s.lsq.seq = .held .rest ∨ s.lsq.seq = .halted
    let reached := ((activeBank s).target ≠ 0 ∧ (activeBank s).target ≤ s.lsq.passCount) ∨ s.lsq.passCount = 2 ^ 32 - 1
    let steps := (theLine s).zipIdx.map fun x => (x.1.act, placeTarget s x.1 x.2)
    let running := { s with
      lsq := { s.lsq with
        seq := .running .ramp, haltCause := .none, reholdSet := 0, awaited := awaitedAfter steps s.lsq.awaited }
      transit := s.transit ++ setsOf (activeBank s).ramp steps ++ [.attentionEventReport .seqState] }
    let both := fun (r : Reply) (t : State) =>
      (s.lsq.seq = .ready → exec (.start [0]) s = .next (answered 0x22 r t)) ∧
      (resumable → exec (.resume [0]) s = .next (answered 0x25 r t))
    (s.lsq.seq ≠ .ready → exec (.start [0]) s = .next (answered 0x22 (refusedFor .state) s)) ∧
    (¬ resumable → exec (.resume [0]) s = .next (answered 0x25 (refusedFor .state) s)) ∧
    (s.lsq.rezoneOpen = true → both (refusedFor .rezoneOpen) s) ∧
    (s.lsq.rezoneOpen = false → s.lsq.faultSet ≠ 0 → both (refusedFor .faultPresent) s) ∧
    (s.lsq.rezoneOpen = false → s.lsq.faultSet = 0 → reached → both (refusedFor .targetReached) s) ∧
    (s.lsq.rezoneOpen = false → s.lsq.faultSet = 0 → ¬ reached → both (doneWith []) running)

/-- HALT, STOP NOW, REST and DISARM by the sequencer's state. -/
def Obligations.HaltStopRestDisarm : Prop :=
  ∀ s : State, PortFree s →
    let caused := fun c : HaltCause => { s with lsq := { s.lsq with haltCause := c } }
    (∀ ph, s.lsq.seq = .running ph → exec (.halt [0]) s = .next (answered 0x23 (doneWith []) { s with
      lsq := { s.lsq with seq := .haltingFinish ph, haltCause := .hostOrderly }
      transit := s.transit ++ [.attentionEventReport .seqState] })) ∧
    ((∃ ph, s.lsq.seq = .haltingFinish ph) ∨ s.lsq.seq = .haltingRest →
      exec (.halt [0]) s = .next (answered 0x23 (doneWith []) s)) ∧
    (s.lsq.seq ∈ [.idle, .arming, .ready, .held .step, .held .rest, .halted, .disarming] →
      exec (.halt [0]) s = .next (answered 0x23 (refusedFor .state) s)) ∧
    ((∃ ph, s.lsq.seq = .running ph ∨ s.lsq.seq = .haltingFinish ph) →
      exec (.stopNow [0]) s = .next (answered 0x24 (doneWith []) (heldNow .hostImmediate .step s))) ∧
    (s.lsq.seq = .haltingRest →
      exec (.stopNow [0]) s = .next (answered 0x24 (doneWith []) (heldNow .hostImmediate .rest s))) ∧
    (s.lsq.seq = .arming →
      exec (.stopNow [0]) s = .next (answered 0x24 (doneWith []) (disarmingNow (caused .hostImmediate)))) ∧
    (s.lsq.seq ∈ [.idle, .ready, .held .step, .held .rest, .halted, .disarming] →
      exec (.stopNow [0]) s = .next (answered 0x24 (refusedFor .state) s)) ∧
    ((∃ o, s.lsq.seq = .held o) → exec (.rest [0]) s = .next (answered 0x26 (doneWith []) (restRamped s))) ∧
    ((∀ o, s.lsq.seq ≠ .held o) → exec (.rest [0]) s = .next (answered 0x26 (refusedFor .state) s)) ∧
    (s.lsq.seq = .ready ∨ s.lsq.seq = .halted →
      exec (.disarm [0]) s = .next (answered 0x27 (doneWith []) (disarmingNow s))) ∧
    (s.lsq.seq ≠ .ready → s.lsq.seq ≠ .halted → exec (.disarm [0]) s = .next (answered 0x27 (refusedFor .state) s))

/-- STRAIN_TRIP, CRACK_GROWTH and CRACK_TABLE_FULL: RUNNING goes to HALTING-FINISH in its step phase with the cause;
in any other state nothing changes and SEQ_STATE is raised. The ZDU's notice sets what LSQ holds of the REZONE state
(DEDUCED, log 10). CLOSE INTERVAL closes the interval in every state: the number rises by 1 modulo 65536, the interval
passes are 0, INTERVAL_CLOSED and the two closes are sent, and the new number is answered. CLEAR PASSES sets the pass
count to 0 in IDLE alone. GSC stores the number of a close and touches no record. Every step keeps the scale at 100 or
less and the pass count in four bytes. -/
def Obligations.HaltRequestsAndIntervalClock : Prop :=
  (∀ (c : Instr) (cause : HaltCause) (s : State), s.resetHeld = false →
    (c, cause) ∈ [((.strainTrip : Instr), HaltCause.strainTrip), (.crackGrowth, .crackGrowth),
      (.crackTableFull, .crackTableFull)] →
    (∀ ph, s.lsq.seq = .running ph → exec c s = .next { s with
      lsq := { s.lsq with seq := .haltingFinish ph, haltCause := cause }
      transit := s.transit.erase c ++ [.attentionEventReport .seqState] }) ∧
    ((∀ ph, s.lsq.seq ≠ .running ph) → exec c s = .next { s with
      transit := s.transit.erase c ++ [.attentionEventReport .seqState] }) ∧
    ∀ b, exec (.rezoneStateNotice b) s = .next { s with
      lsq := { s.lsq with rezoneOpen := b }, transit := s.transit.erase (.rezoneStateNotice b) }) ∧
  (∀ s : State, PortFree s →
    let number := s.lsq.intervalNumber + 1
    exec (.closeInterval [0]) s = .next (answered 0x2B (doneWith (le16 number.toNat)) { s with
      lsq := { s.lsq with intervalNumber := number, intervalPasses := 0 }
      transit := s.transit ++
        [.attentionEventReport .intervalClosed, .gscIntervalClose number, .cwuIntervalClose number] }) ∧
    (s.lsq.seq = .idle → exec (.clearPasses [0]) s =
      .next (answered 0x2C (doneWith []) { s with lsq := { s.lsq with passCount := 0 } })) ∧
    (s.lsq.seq ≠ .idle → exec (.clearPasses [0]) s = .next (answered 0x2C (refusedFor .state) s))) ∧
  (∀ (n : BitVec 16) (s : State), s.resetHeld = false → exec (.gscIntervalClose n) s = .next { s with
    transit := s.transit.erase (.gscIntervalClose n), gsc := { s.gsc with interval := n } }) ∧
  ∀ s t : State, SequencerInRange s → step s = .next t → SequencerInRange t

/-- ACT_FAULT: ignored in IDLE and for a member of the fault set; otherwise the actuator joins the fault set and
leaves the awaited tags and the re-hold set, and RUNNING and HALTING are halted at once, ARMING fails into DISARMING.
FREED: in DISARMING, for a line actuator, it joins the freed set; with every line actuator freed the sequencer is
IDLE, the line released, the fault set and the freed set emptied, a pending swap taken, SEQ_STATE raised. Otherwise it is
ignored. That entering IDLE empties the awaited tags too is the model's reading (DEDUCED, log 8). -/
def Obligations.ActuatorFaultAndFreedNotices : Prop :=
  (∀ (a : Fin Config.actuators) (c : ActCause) (s : State), s.resetHeld = false →
    let s0 := { s with transit := s.transit.erase (.actFault a c) }
    let s1 := { s0 with lsq := { s.lsq with
      faultSet := putBit s.lsq.faultSet a.val true, awaited := s.lsq.awaited.set a none
      reholdSet := putBit s.lsq.reholdSet a.val false } }
    (s.lsq.seq = .idle ∨ inSet s.lsq.faultSet a = true → exec (.actFault a c) s = .next s0) ∧
    (inSet s.lsq.faultSet a = false →
      ((∃ ph, s.lsq.seq = .running ph ∨ s.lsq.seq = .haltingFinish ph) →
        exec (.actFault a c) s = .next (heldNow .actuatorFault .step s1)) ∧
      (s.lsq.seq = .haltingRest → exec (.actFault a c) s = .next (heldNow .actuatorFault .rest s1)) ∧
      (s.lsq.seq = .arming → exec (.actFault a c) s =
        .next (disarmingNow { s1 with lsq := { s1.lsq with haltCause := .armFailed } })) ∧
      (s.lsq.seq ∈ [.ready, .held .step, .held .rest, .halted, .disarming] → exec (.actFault a c) s = .next s1))) ∧
  (∀ (a : Fin Config.actuators) (s : State), s.resetHeld = false →
    let rest := s.transit.erase (.freed a)
    let freed := putBit s.lsq.freedSet a.val true
    (s.lsq.seq ≠ .disarming ∨ a ∉ lineActs s → exec (.freed a) s = .next { s with transit := rest }) ∧
    (s.lsq.seq = .disarming → a ∈ lineActs s →
      ((∃ b ∈ lineActs s, inSet freed b = false) →
        exec (.freed a) s = .next { s with lsq := { s.lsq with freedSet := freed }, transit := rest }) ∧
      ((∀ b ∈ lineActs s, inSet freed b = true) →
        exec (.freed a) s = .next { s with
          lsq := { s.lsq with
            seq := .idle, awaited := Table.fill _ none, line := none, faultSet := 0, freedSet := 0
            active := if s.lsq.swapPending then s.lsq.active.other else s.lsq.active
            direction := if s.lsq.swapPending then (standbyBank s).dir else s.lsq.direction
            position := if s.lsq.swapPending then 0 else s.lsq.position
            swapPending := false }
          transit := rest ++ (if s.lsq.swapPending then [.attentionEventReport .bankEvent] else []) ++
            [.attentionEventReport .seqState] })))

/-- SET SCALE, TRIM UP, TRIM DOWN and DERATE_FALL. A fall, in RUNNING, HALTING-FINISH and HELD with origin STEP,
resends each candidate whose recomputed target is smaller in magnitude than its commanded one, at the derate ramp, in
HELD adding it to the re-hold set; elsewhere, and on a rise, nothing is sent. -/
def Obligations.ScaleAndFalls : Prop :=
  let obeyed := fun (cand : Fin Config.actuators → Bool) (s : State) =>
    let drops := ((theLine s).zipIdx.map fun x => (x.1.act, placeTarget s x.1 x.2)).filter fun x =>
      !inSet s.lsq.faultSet x.1 && cand x.1 && decide (x.2.natAbs < (lastCommanded x.1 s).natAbs)
    let resent := { s with
      lsq := { s.lsq with awaited := awaitedAfter drops s.lsq.awaited }
      transit := s.transit ++ setsOf s.lsq.derateRamp drops }
    if s.lsq.seq ∈ [.running .ramp, .running .dwell, .haltingFinish .ramp, .haltingFinish .dwell] then resent
    else if s.lsq.seq = .held .step then
      { resent with lsq := { resent.lsq with
        reholdSet := drops.foldl (fun x d => putBit x d.1.val true) s.lsq.reholdSet } }
    else s
  let scaled := fun (v : Nat) (s : State) =>
    let t := { s with lsq := { s.lsq with scale := v } }
    if v < s.lsq.scale then obeyed (fun _ => true) t else t
  (∀ (b : Byte) (s : State), PortFree s →
    (100 < b.toNat → exec (.setScale [1, b]) s = .next (answered 0x28 (refusedFor .range) s)) ∧
    (b.toNat ≤ 100 → exec (.setScale [1, b]) s = .next (answered 0x28 (doneWith [b]) (scaled b.toNat s)))) ∧
  (∀ s : State, PortFree s →
    let up := if s.lsq.scale < 100 then s.lsq.scale + 1 else s.lsq.scale
    exec (.trimUp [0]) s = .next (answered 0x29 (doneWith [byteOf up]) (scaled up s)) ∧
    exec (.trimDown [0]) s = .next (answered 0x2A (doneWith [byteOf (s.lsq.scale - 1)]) (scaled (s.lsq.scale - 1) s))) ∧
  (∀ (z : Nat) (s : State), s.resetHeld = false → exec (.derateFall z) s =
    .next (obeyed (fun a => (act a s).zone == z) { s with transit := s.transit.erase (.derateFall z) })) ∧
  ∀ (a : Fin Config.actuators) (s : State), (∀ b t r, .setCommand b t r ∉ s.transit) →
    lastCommanded a s = s.lsq.commanded.get a

/-- SETTLED: a tag that is not awaited changes nothing; the awaited one is removed, and where no settle is waited for
any more ARMING becomes READY at position 0, a RAMP ends with the load mask, the dwell timer and DWELL, the rest ramp
becomes HALTED; in HELD a re-hold member is held again, unless a newer SET for it is still unanswered: then
the HOLD waits for that one's tag. That a SET command in transit stands for a tag still to come is the model's form (log
8). The load mask holds the stored zones of the actuators of the travel places that are under a cell of the envelope at the
position. -/
def Obligations.SettledNotice : Prop :=
  (∀ (s : State) (z : Nat), z < 32 →
    let b := activeBank s
    let n := (theLine s).length
    let slot := fun i : Nat => match s.lsq.direction with
      | .forward => i - b.lead
      | .reverse => n - b.trail - 1 - i
    ((envelopeMask s).getLsbD z = true ↔ ∃ i l, (theLine s)[i]? = some l ∧ b.lead ≤ i ∧ i < n - b.trail ∧
      slot i ≤ s.lsq.position ∧ s.lsq.position - slot i < b.len ∧ (act l.act s).zone = z)) ∧
  ∀ (a : Fin Config.actuators) (tag : Tag) (s : State), s.resetHeld = false →
    let s0 := { s with transit := s.transit.erase (.settled a tag) }
    let s1 := { s0 with lsq := { s.lsq with awaited := s.lsq.awaited.set a none } }
    let quiet := (∀ b, s1.lsq.awaited.get b = none) ∧ ∀ b t r, .setCommand b t r ∉ s1.transit
    let entered := fun st : SeqState => { s1 with
      lsq := { s1.lsq with seq := st }, transit := s1.transit ++ [.attentionEventReport .seqState] }
    let dwelling := fun st : SeqState => { s1 with
      lsq := { s1.lsq with seq := st, dwellTimer := some (activeBank s).dwell }
      transit := s1.transit ++ [.loadMask (envelopeMask s)] }
    (s.lsq.awaited.get a ≠ some tag → exec (.settled a tag) s = .next s0) ∧
    (s.lsq.awaited.get a = some tag →
      (quiet →
        (s.lsq.seq = .arming → exec (.settled a tag) s =
          .next { entered .ready with lsq := { (entered .ready).lsq with position := 0 } }) ∧
        (s.lsq.seq = .running .ramp → exec (.settled a tag) s = .next (dwelling (.running .dwell))) ∧
        (s.lsq.seq = .haltingFinish .ramp → exec (.settled a tag) s = .next (dwelling (.haltingFinish .dwell))) ∧
        (s.lsq.seq = .haltingRest → exec (.settled a tag) s = .next (entered .halted))) ∧
      (¬ quiet → s.lsq.seq ∈ [.arming, .running .ramp, .haltingFinish .ramp, .haltingRest] →
        exec (.settled a tag) s = .next s1) ∧
      ((∃ o, s.lsq.seq = .held o) →
        (inSet s.lsq.reholdSet a = true → (∀ t r, .setCommand a t r ∉ s1.transit) → exec (.settled a tag) s = .next { s1 with
          lsq := { s1.lsq with reholdSet := putBit s.lsq.reholdSet a.val false }
          transit := s1.transit ++ [.holdCommand a] }) ∧
        (inSet s.lsq.reholdSet a = false ∨ (∃ t r, .setCommand a t r ∈ s1.transit) →
          exec (.settled a tag) s = .next s1)) ∧
      (s.lsq.seq ∈ [.idle, .ready, .running .dwell, .haltingFinish .dwell, .halted, .disarming] →
        exec (.settled a tag) s = .next s1))

/-- The dwell expiry: below the last position the position advances and the next step, or the rest ramp, starts; at
the last the pass boundary is processed, its items in order: the pass count, the interval, the pending swap, the
direction, position 0, the target test, the next step or the rest ramp. The last position is T + L - 2, T the travel
places of the line and L the envelope length. A stopped timer has no expiry (the model's form, log 5). -/
def Obligations.DwellExpiryAndPassBoundary : Prop :=
  (∀ (b : Bank) (n : Nat), lastPosition b n = (n - b.lead - b.trail) + b.len - 2) ∧
  ∀ (ph : Bool) (s : State), s.resetHeld = false →
    let running := ph
    let last := lastPosition (activeBank s) (theLine s).length
    let s0 := { s with lsq := { s.lsq with dwellTimer := none } }
    let n := min 65535 (s.lsq.intervalPasses + 1)
    let number := s.lsq.intervalNumber + 1
    let closes := s.lsq.intervalAuto = true ∧ s.lsq.intervalLen ≤ n
    let s1 := { s0 with
      lsq := { s0.lsq with
        passCount := min (2 ^ 32 - 1) (s.lsq.passCount + 1)
        intervalNumber := if closes then number else s.lsq.intervalNumber
        intervalPasses := if closes then 0 else n }
      transit := s.transit ++ [.attentionEventReport .passDone] ++
        if closes then [.attentionEventReport .intervalClosed, .gscIntervalClose number, .cwuIntervalClose number]
        else [] }
    let turned := fun t : State =>
      if (activeBank t).shuttle then
        { t with lsq := { t.lsq with direction := if t.lsq.direction = .forward then .reverse else .forward } }
      else t
    let s2 := if running = true ∧ s.lsq.swapPending = true then
        match validate (standbyBank s) (theLine s) s with
        | none => { s1 with
            lsq := { s1.lsq with
              active := s.lsq.active.other, direction := (standbyBank s).dir, swapPending := false }
            transit := s1.transit ++ [.attentionEventReport .bankEvent] }
        | some f =>
          let q := s1.lsq.setBank s.lsq.active.other { standbyBank s with state := .invalid f }
          turned { s1 with lsq := { q with swapPending := false }, transit := s1.transit ++ [.attentionEventReport .bankEvent] }
      else turned s1
    let s3 := { s2 with lsq := { s2.lsq with position := 0 } }
    let reached := ((activeBank s3).target ≠ 0 ∧ (activeBank s3).target ≤ s3.lsq.passCount) ∨
      s3.lsq.passCount = 2 ^ 32 - 1
    let next := { s0 with lsq := { s0.lsq with position := s.lsq.position + 1 } }
    let goesOn := fun t : State => if running then stepStarted t else restRamped t
    (s.lsq.dwellTimer = none → exec .dwellTimerExpiry s = .next s) ∧
    (s.lsq.dwellTimer ≠ none → s.lsq.seq = (if running then .running .dwell else .haltingFinish .dwell) →
      (s.lsq.position < last → exec .dwellTimerExpiry s = .next (goesOn next)) ∧
      (last ≤ s.lsq.position → reached → exec .dwellTimerExpiry s =
        .next (restRamped { s3 with lsq := { s3.lsq with haltCause := .targetReached } })) ∧
      (last ≤ s.lsq.position → ¬ reached → exec .dwellTimerExpiry s = .next (goesOn s3)))

/-! ### The Gauge Scanner (chapters 5 and 6) -/

/-- Every step keeps the channel map true to the records: it holds, for each key, the one open gauge record with that key,
so no two open records share a key. -/
def Obligations.KeysStayTrue : Prop :=
  ∀ s t : State, KeysTrue s → step s = .next t → KeysTrue t

/-- The claims of an event at a gauge record, from its counted properties and zone before and after; a record leaving
a ZERO counts as zeroed or skipped, and the last one out completes it; the end of a SHUNT clears shunt pending, stores
the result and raises OP_DONE. ANY_ALERT is true while some record stands in ALERT. -/
def Obligations.PartsOfAGaugeEvent : Prop :=
  (∀ s : State, anyAlert s = true ↔ ∃ i, (gauge i s).state = .alert) ∧
  (∀ old new : Gauge,
    let isOver := fun g : Gauge => g.state ≠ .vacant ∧ (g.state = .over ∨ g.overHeld = true)
    let faulty := fun g : Gauge => ∃ c, g.state = .fault c
    let part := fun (p : Gauge → Prop) (enter leave : Nat → Instr) (ms : List Instr) =>
      (¬ p old → ¬ p new → ms = []) ∧ (¬ p old → p new → ms = [enter new.zone]) ∧
      (p old → ¬ p new → ms = [leave old.zone]) ∧
      (p old → p new → ms = if old.zone = new.zone then [] else [leave old.zone, enter new.zone])
    ∃ a b, claimsOf old new = a ++ b ∧ part isOver .overEnter .overLeave a ∧ part faulty .faultEnter .faultLeave b) ∧
  (∀ (n : Nat) (zeroed : Bool) (s : State), s.gsc.zeroOp = none → leaveZero n zeroed s = s) ∧
  (∀ (n : Nat) (zeroed : Bool) (z : ZeroOp) (s : State), s.gsc.zeroOp = some z →
    let zs := if zeroed then z.zeroed + n else z.zeroed
    let sk := if zeroed then z.skipped else z.skipped + n
    (n < z.pending → leaveZero n zeroed s =
      { s with gsc := { s.gsc with zeroOp := some { pending := z.pending - n, zeroed := zs, skipped := sk } } }) ∧
    (z.pending ≤ n → leaveZero n zeroed s = { s with
      gsc := { s.gsc with zeroOp := none, lastZeroed := zs, lastSkipped := sk }
      transit := s.transit ++ [.attentionEventReport .opDone] })) ∧
  ∀ (i : Fin Config.gauges) (o : ShuntOutcome) (s : State), endShunt i o s = { s with
    gsc := { s.gsc with
      gauges := s.gsc.gauges.set i { gauge i s with shuntPending := false }
      shuntOp := none, lastShuntGauge := i.val, lastShuntOutcome := o }
    transit := s.transit ++ [.attentionEventReport .opDone] }

/-- OPEN, RETIRE, SUSPEND and WATCH GAUGE: ranges, then state and key; an opened record holds the defaults with its
key, station and zone, and waits, or is in FAULT(LINK) on a lost link; a retired one is VACANT and leaves the map;
retired and suspended records leave a ZERO as skipped and a SHUNT as ABANDONED. -/
def Obligations.GaugeRequests : Prop :=
  (∀ (i0 i1 k ch x0 x1 : Byte) (s : State), PortFree s →
    512 ≤ u16 i0 i1 ∨ 4 ≤ k.toNat ∨ 128 ≤ ch.toNat ∨ 65000 < u16 x0 x1 →
    exec (.openGauge [6, i0, i1, k, ch, x0, x1]) s = .next (answered 0x60 (refusedFor .range) s)) ∧
  (∀ (i0 i1 k ch x0 x1 : Byte) (i : Fin Config.gauges) (sc : Fin Config.scanners) (c : Fin Config.channels) (s : State),
    PortFree s → u16 i0 i1 = i.val → k.toNat = sc.val → ch.toNat = c.val → u16 x0 x1 ≤ 65000 →
    let key := sc.val * 128 + c.val
    let opened : Gauge :=
      { state := if (scannerLink sc s).state = .lost then .fault .link else .waiting
        scanner := sc, channel := c, station := u16 x0 x1, zone := decodeStation (u16 x0 x1) s
        live := { number := s.lsq.intervalNumber } }
    let t := gaugeMoved i opened s
    ((gauge i s).state ≠ .vacant →
      exec (.openGauge [6, i0, i1, k, ch, x0, x1]) s = .next (answered 0x60 (refusedFor .occupied) s)) ∧
    ((gauge i s).state = .vacant → s.gsc.chanMap.getD key none ≠ none →
      exec (.openGauge [6, i0, i1, k, ch, x0, x1]) s = .next (answered 0x60 (refusedFor .keyInUse) s)) ∧
    ((gauge i s).state = .vacant → s.gsc.chanMap.getD key none = none →
      exec (.openGauge [6, i0, i1, k, ch, x0, x1]) s = .next (answered 0x60 (doneWith [])
        { t with gsc := { t.gsc with chanMap := s.gsc.chanMap.setD key (some i) } }))) ∧
  (∀ (i0 i1 : Byte) (s : State), PortFree s → 512 ≤ u16 i0 i1 →
    exec (.retireGauge [2, i0, i1]) s = .next (answered 0x61 (refusedFor .range) s) ∧
    exec (.suspendGauge [2, i0, i1]) s = .next (answered 0x62 (refusedFor .range) s) ∧
    exec (.watchGauge [2, i0, i1]) s = .next (answered 0x63 (refusedFor .range) s)) ∧
  ∀ (i0 i1 : Byte) (i : Fin Config.gauges) (s : State), PortFree s → u16 i0 i1 = i.val →
    let g := gauge i s
    let left := fun r : Gauge =>
      let t := if g.zeroPending = true then leaveZero 1 false (gaugeMoved i r s) else gaugeMoved i r s
      if g.shuntPending = true then endShunt i .abandoned t else t
    let suspended := { g with
      state := .suspended, overHeld := false, overRun := 0, clearRun := 0, zeroPending := false }
    let retired := { left {} with gsc := { (left {}).gsc with
      chanMap := s.gsc.chanMap.setD (g.scanner.val * 128 + g.channel.val) none } }
    (g.state = .vacant → exec (.retireGauge [2, i0, i1]) s = .next (answered 0x61 (refusedFor .state) s)) ∧
    (g.state ≠ .vacant →
      exec (.retireGauge [2, i0, i1]) s = .next (answered 0x61 (doneWith []) (withAlertEdge s retired))) ∧
    (g.state = .vacant ∨ g.state = .suspended →
      exec (.suspendGauge [2, i0, i1]) s = .next (answered 0x62 (refusedFor .state) s)) ∧
    (g.state ≠ .vacant → g.state ≠ .suspended →
      exec (.suspendGauge [2, i0, i1]) s = .next (answered 0x62 (doneWith []) (withAlertEdge s (left suspended)))) ∧
    (g.state ≠ .suspended → exec (.watchGauge [2, i0, i1]) s = .next (answered 0x63 (refusedFor .state) s)) ∧
    (g.state = .suspended →
      exec (.watchGauge [2, i0, i1]) s = .next (answered 0x63 (doneWith []) (gaugeMoved i
        { g with
          state := if (scannerLink g.scanner s).state = .lost then .fault .link else .waiting
          overRun := 0, clearRun := 0 } s)))

/-- ZERO and SHUNT with their checks in order. A taken ZERO marks the judged records of its selection that stand on a
LIVE link, counts the other open ones as skipped, and completes at once where none is pending; a taken SHUNT marks its
record, opens with no miss and sends the scanner its command. -/
def Obligations.ZeroAndShuntRequests : Prop :=
  let judged := fun g : Gauge => g.state ∈ [.waiting, .quiet, .alert, .over]
  (∀ (b0 b1 : Byte) (s : State), PortFree s →
    let sel := u16 b0 b1
    let atRest := s.lsq.seq = .idle ∨ s.lsq.seq = .ready ∨ s.lsq.seq = .halted
    (sel ≠ 0xFFFF → 512 ≤ sel → exec (.zero [2, b0, b1]) s = .next (answered 0x64 (refusedFor .range) s)) ∧
    (sel = 0xFFFF ∨ sel < 512 →
      (¬ atRest → exec (.zero [2, b0, b1]) s = .next (answered 0x64 (refusedFor .loadOn) s)) ∧
      (atRest → s.gsc.zeroOp.isSome = true →
        exec (.zero [2, b0, b1]) s = .next (answered 0x64 (refusedFor .pending) s)) ∧
      (atRest → s.gsc.zeroOp = none → sel = 0xFFFF → (∀ w, s.sp.window = some w → w.table ≠ .gauges) →
        exec (.zero [2, b0, b1]) s = .next (answered 0x64 (refusedFor .state) s)) ∧
      (atRest → s.gsc.zeroOp = none → ∀ lo hi,
        (sel < 512 ∧ lo = sel ∧ hi = sel) ∨
          (sel = 0xFFFF ∧ ∃ w, s.sp.window = some w ∧ w.table = .gauges ∧ lo = w.firstRec ∧ hi = w.lastRec) →
        let joins := fun i : Fin Config.gauges =>
          lo ≤ i.val ∧ i.val ≤ hi ∧ judged (gauge i s) ∧ (scannerLink (gauge i s).scanner s).state = .live
        let pending := (List.finRange 512).countP fun i => decide (joins i)
        let skipped := (List.finRange 512).countP fun i =>
          decide (lo ≤ i.val ∧ i.val ≤ hi ∧ (gauge i s).state ≠ .vacant ∧ ¬ joins i)
        ∃ t, exec (.zero [2, b0, b1]) s = .next (answered 0x64 startedReply t) ∧
          t = { s with
            gsc := { s.gsc with
              gauges := t.gsc.gauges
              zeroOp := if pending = 0 then none else some { pending := pending, zeroed := 0, skipped := skipped }
              lastZeroed := if pending = 0 then 0 else s.gsc.lastZeroed
              lastSkipped := if pending = 0 then skipped else s.gsc.lastSkipped }
            transit := s.transit ++ if pending = 0 then [.attentionEventReport .opDone] else [] } ∧
          ∀ i, gauge i t = { gauge i s with zeroPending := decide (joins i) || (gauge i s).zeroPending }))) ∧
  (∀ (b0 b1 : Byte) (s : State), PortFree s → 512 ≤ u16 b0 b1 →
    exec (.shunt [2, b0, b1]) s = .next (answered 0x65 (refusedFor .range) s)) ∧
  ∀ (b0 b1 : Byte) (i : Fin Config.gauges) (s : State), PortFree s → u16 b0 b1 = i.val →
    let g := gauge i s
    let able := (judged g ∨ g.state = .fault .shunt) ∧ g.lastGood ≠ none
    (¬ able → exec (.shunt [2, b0, b1]) s = .next (answered 0x65 (refusedFor .state) s)) ∧
    (able →
      ((scannerLink g.scanner s).state ≠ .live →
        exec (.shunt [2, b0, b1]) s = .next (answered 0x65 (refusedFor .link) s)) ∧
      ((scannerLink g.scanner s).state = .live → s.gsc.shuntOp.isSome = true →
        exec (.shunt [2, b0, b1]) s = .next (answered 0x65 (refusedFor .pending) s)) ∧
      ((scannerLink g.scanner s).state = .live → s.gsc.shuntOp = none →
        exec (.shunt [2, b0, b1]) s = .next (answered 0x65 startedReply { s with
          sent := s.sent ++ [⟨.scanner g.scanner, sealUnit [0x11, byteOf g.channel.val]⟩]
          gsc := { s.gsc with
            gauges := s.gsc.gauges.set i { g with shuntPending := true }
            shuntOp := some { gauge := i, misses := 0 } } })))

/-- A unit is a good scan frame exactly when it carries, after 91H and their count, 1 to 128 readings of four bytes, each
quality one of the four, and their check. A scan frame that fails its check changes nothing; a good one restarts the link timer and makes the link LIVE, a
LOST link returning with its FAULT(LINK) records, and its readings follow in frame order. A link timer's expiry makes
the link LOST and its judged records FAULT(LINK), out of a ZERO and a SHUNT. A stopped timer has no expiry (log 5). -/
def Obligations.ScanFramesAndLinkTimers : Prop :=
  let quality := fun q : Quality => match q with
    | .good => (0 : Byte)
    | .overrange => 1
    | .open => 2
    | .shunted => 3
  (∀ (unit : List Byte) (rs : List FrameReading), parseScanFrame unit = some rs ↔ 1 ≤ rs.length ∧ rs.length ≤ 128 ∧
    unit = sealUnit ([0x91, BitVec.ofNat 8 rs.length] ++ rs.flatMap fun r =>
      [r.channel, quality r.quality, BitVec.ofNat 8 r.value.toNat, BitVec.ofNat 8 (r.value.toNat / 256)])) ∧
  (∀ (k : Fin Config.scanners) (unit : List Byte) (s : State), s.resetHeld = false →
    let good := { s with gsc := { s.gsc with
      links := s.gsc.links.set k { state := .live, timer := some s.gsc.linkTimeout } } }
    let back := fun g : Gauge => if g.scanner = k ∧ g.state = .fault .link then { g with state := .waiting } else g
    (parseScanFrame unit = none → exec (.scanFrame k unit) s = .next s) ∧
    ∀ rs, parseScanFrame unit = some rs →
      let readings := rs.map fun r => Instr.reading k r.channel r.quality r.value
      ((scannerLink k s).state ≠ .lost →
        exec (.scanFrame k unit) s = .next { good with transit := s.transit ++ readings }) ∧
      ((scannerLink k s).state = .lost →
        exec (.scanFrame k unit) s = .next { good with
          gsc := { good.gsc with gauges := s.gsc.gauges.map back }
          transit := s.transit ++ [.linkReport (.scanner k) false] ++
            (s.gsc.gauges.rows.zipIdx.flatMap fun x =>
              if s.gsc.sweep.passed x.2 then claimsOf x.1 (back x.1) else []) ++ readings })) ∧
  ∀ (k : Fin Config.scanners) (s : State), s.resetHeld = false →
    let hurt := fun g : Gauge => g.scanner = k ∧ g.state ∈ [.waiting, .quiet, .alert, .over]
    let lost := fun g : Gauge => if hurt g then { g with
        state := .fault .link, overHeld := g.overHeld || g.state == .over, overRun := 0, clearRun := 0
        zeroPending := false }
      else g
    let leaving := (List.finRange 512).countP fun i => decide (hurt (gauge i s) ∧ (gauge i s).zeroPending = true)
    let s1 := { s with
      gsc := { s.gsc with links := s.gsc.links.set k { state := .lost, timer := none }, gauges := s.gsc.gauges.map lost }
      transit := s.transit ++ [.linkReport (.scanner k) true] ++
        s.gsc.gauges.rows.zipIdx.flatMap fun x => if s.gsc.sweep.passed x.2 then claimsOf x.1 (lost x.1) else [] }
    let s2 := if leaving = 0 then s1 else leaveZero leaving false s1
    ((scannerLink k s).timer = none → exec (.scannerLinkTimerExpiry k) s = .next s) ∧
    ((scannerLink k s).timer ≠ none →
      ((∀ o, s.gsc.shuntOp = some o → (gauge o.gauge s).scanner ≠ k) →
        exec (.scannerLinkTimerExpiry k) s = .next (withAlertEdge s s2)) ∧
      ∀ o, s.gsc.shuntOp = some o → (gauge o.gauge s).scanner = k →
        exec (.scannerLinkTimerExpiry k) s = .next (withAlertEdge s (endShunt o.gauge .abandoned s2)))

/-- A reading for no open record is ignored. For a record found: the lazy transfer, the last reading, then nothing in
SUSPENDED, the shunt rule with shunt pending, the quality otherwise; the claims, the ZERO it leaves, the miss, the end
of the SHUNT and the ANY_ALERT edge close the event. That a GOOD value outside -32000..32000 is stored as carried, as last
good value and as zero, is the model's reading (DEDUCED, log 18); so is a reading in FAULT(LINK) (log 28). -/
def Obligations.ReadingArrival : Prop :=
  ∀ (k : Fin Config.scanners) (channel : Byte) (q : Quality) (value : BitVec 16) (s : State), s.resetHeld = false →
    let s0 := { s with transit := s.transit.erase (.reading k channel q value) }
    (128 ≤ channel.toNat ∨ s.gsc.chanMap.getD (k.val * 128 + channel.toNat) none = none →
      exec (.reading k channel q value) s = .next s0) ∧
    ∀ i, channel.toNat < 128 → s.gsc.chanMap.getD (k.val * 128 + channel.toNat) none = some i →
      let g := { (gauge i s).touch s.gsc.interval with lastValue := value.toInt, lastQuality := some q }
      let flag := loadFlagOf (gauge i s).zone s
      let judged := fun g : Gauge => g.state ∈ [.waiting, .quiet, .alert, .over]
      let misses := (s.gsc.shuntOp.filter fun o => o.gauge == i).elim 0 ShuntOp.misses
      let fault := fun (c : GaugeCause) (g : Gauge) =>
        { g with state := .fault c, overRun := 0, clearRun := 0, zeroPending := false }
      let bad := fun c : GaugeCause =>
        if judged g then fault c g
        else if g.state = .fault .open ∨ g.state = .fault .range then { g with state := .fault c } else g
      let back := { g with
        lastGood := some value.toInt
        state := if g.state = .fault .open ∨ g.state = .fault .range then .waiting else g.state }
      let good := if g.zeroPending = true then { back with zero := value.toInt, zeroPending := false }
        else if judged back then judge flag value.toInt back else back
      let shuntFault := fun g : Gauge => if g.state = .fault .shunt then g else fault .shunt g
      let passes := (value.toInt - g.lastGood.getD 0 - g.shuntStep).natAbs ≤ g.shuntTol
      let closed := fun (r : Gauge) (zeroed miss : Bool) (outcome : Option ShuntOutcome) =>
        let t1 := gaugeMoved i r s0
        let t2 := if (gauge i s).zeroPending = true ∧ r.zeroPending = false then leaveZero 1 zeroed t1 else t1
        let t3 := { t2 with gsc := { t2.gsc with
          shuntOp := if miss then t2.gsc.shuntOp.map fun o => { o with misses := o.misses + 1 } else t2.gsc.shuntOp } }
        withAlertEdge s0 (match outcome with
          | some o => endShunt i o t3
          | none => t3)
      let gives := fun (r : Gauge) (zeroed miss : Bool) (outcome : Option ShuntOutcome) =>
        exec (.reading k channel q value) s = .next (closed r zeroed miss outcome)
      (g.state = .suspended → gives g false false none) ∧
      (g.state ≠ .suspended → g.shuntPending = false →
        (q = .open → gives (bad .open) false false none) ∧ (q = .overrange → gives (bad .range) false false none) ∧
        (q = .shunted → gives g false false none) ∧ (q = .good → gives good g.zeroPending false none)) ∧
      (g.state ≠ .suspended → g.shuntPending = true →
        (q = .open → gives (bad .open) false false (if judged g then some .abandoned else none)) ∧
        (q = .overrange → gives (bad .range) false false (if judged g then some .abandoned else none)) ∧
        (q = .shunted → passes →
          gives { g with state := if g.state = .fault .shunt then .waiting else g.state } false false (some .pass)) ∧
        (q = .shunted → ¬ passes → gives (shuntFault g) false false (some .fail)) ∧
        (q = .good → misses < 2 → gives good g.zeroPending true none) ∧
        (q = .good → 2 ≤ misses → gives (shuntFault good) g.zeroPending true (some .missed)))

/-- Judgement: the set the load flag chooses, the clamped strain, the bands, the live extremes, the mark cleared, and
the step of the state: over run and declaration, the alert test with its quiet band, and in OVER the clear run. -/
def Obligations.JudgementOfAReading : Prop :=
  ∀ (flag : Bool) (value : Int) (g : Gauge),
    let l := if flag then g.setA else g.setB
    let x := max (-32000) (min 32000 (value - g.zero))
    let c := (l.upper + l.lower).tdiv 2
    let ua := c + ((l.upper - c) * l.alertPct).tdiv 100
    let la := c + ((l.lower - c) * l.alertPct).tdiv 100
    let beyond := l.upper < x ∨ x < l.lower
    let alert := ua < x ∨ x < la
    let quiet := min c (la + l.hyst) ≤ x ∧ x ≤ max c (ua - l.hyst)
    let clear := l.lower + l.hyst ≤ x ∧ x ≤ l.upper - l.hyst
    let followed := { g with
      overHeld := false
      live := { g.live with max := some (g.live.max.elim x (max x)), min := some (g.live.min.elim x (min x)) } }
    let run := min 15 (g.overRun + 1)
    let clearRun := min 15 (g.clearRun + 1)
    let below := g.state = .waiting ∨ g.state = .quiet ∨ g.state = .alert
    let tested : GaugeState := if alert ∨ (g.state = .alert ∧ ¬ quiet) then .alert else .quiet
    (below → beyond → l.declare ≤ run → judge flag value g = { followed with
      state := .over, overRun := 0, clearRun := 0
      live := { followed.live with exceed := min 65535 (g.live.exceed + 1) } }) ∧
    (below → beyond → run < l.declare → judge flag value g = { followed with overRun := run, state := tested }) ∧
    (below → ¬ beyond → judge flag value g = { followed with overRun := 0, state := tested }) ∧
    (g.state = .over → clear → l.declare ≤ clearRun → judge flag value g = { followed with
      overRun := 0, clearRun := 0, state := if alert then .alert else .quiet }) ∧
    (g.state = .over → clear → clearRun < l.declare → judge flag value g = { followed with clearRun := clearRun }) ∧
    (g.state = .over → ¬ clear → judge flag value g = { followed with clearRun := 0 })

/-! ### The Crack Watch (chapters 7 and 8) -/

/-- Every step keeps the pending hit list within 32 entries with no two from one sensor at one time. Every step keeps the
binding of loops and cracks: a loop is in a crack's list exactly when that crack is its bound crack, so in at most one
list; a bound loop is BROKEN; no list names a loop twice or more than 8; a VACANT or SUSPECT record lists none. -/
def Obligations.CrackWatchStaysTrue : Prop :=
  (∀ s t : State, HitsTrue s → step s = .next t → HitsTrue t) ∧
  ∀ s t : State, BindingsTrue s → step s = .next t → BindingsTrue t

/-- A loop input's change always sets the line-closed flag; it starts the confirm timer of an INTACT loop that opens
and cancels that of an OPENING loop that closes. ENABLE, REARM and DISABLE LOOP with their checks; a rearmed loop
leaves the list of its crack. -/
def Obligations.LoopLinesAndRequests : Prop :=
  (∀ (l : Fin Config.loops) (closed : Bool) (s : State), s.resetHeld = false →
    let r := loop l s
    let put := fun x : Loop => { s with
      loopInputs := s.loopInputs.set l closed, cwu := { s.cwu with loops := s.cwu.loops.set l x } }
    (r.state = .intact → closed = false → exec (.loopLineChange l closed) s =
      .next (put { r with closed := false, state := .opening, timer := some r.confirmTime })) ∧
    (r.state = .opening → closed = true → exec (.loopLineChange l closed) s =
      .next (put { r with closed := true, state := .intact, timer := none })) ∧
    (¬ (r.state = .intact ∧ closed = false) → ¬ (r.state = .opening ∧ closed = true) →
      exec (.loopLineChange l closed) s = .next (put { r with closed := closed }))) ∧
  (∀ (b : Byte) (s : State), PortFree s → 24 ≤ b.toNat →
    exec (.enableLoop [1, b]) s = .next (answered 0x70 (refusedFor .range) s) ∧
    exec (.rearmLoop [1, b]) s = .next (answered 0x71 (refusedFor .range) s) ∧
    exec (.disableLoop [1, b]) s = .next (answered 0x72 (refusedFor .range) s)) ∧
  ∀ (l : Fin Config.loops) (b : Byte) (s : State), PortFree s → b.toNat = l.val →
    let r := loop l s
    let put := fun x : Loop => { s with cwu := { s.cwu with loops := s.cwu.loops.set l x } }
    let freed := put { r with state := .intact, bound := none }
    (r.state ≠ .unused → exec (.enableLoop [1, b]) s = .next (answered 0x70 (refusedFor .state) s)) ∧
    (r.state = .unused → r.closed = false →
      exec (.enableLoop [1, b]) s = .next (answered 0x70 (refusedFor .stillOpen) s)) ∧
    (r.state = .unused → r.closed = true →
      exec (.enableLoop [1, b]) s = .next (answered 0x70 (doneWith []) (put { r with state := .intact }))) ∧
    (r.state ≠ .broken → exec (.rearmLoop [1, b]) s = .next (answered 0x71 (refusedFor .state) s)) ∧
    (r.state = .broken → r.closed = false →
      exec (.rearmLoop [1, b]) s = .next (answered 0x71 (refusedFor .stillOpen) s)) ∧
    (r.state = .broken → r.closed = true →
      (r.bound = none → exec (.rearmLoop [1, b]) s = .next (answered 0x71 (doneWith []) freed)) ∧
      ∀ i, r.bound = some i → exec (.rearmLoop [1, b]) s = .next (answered 0x71 (doneWith [])
        (crackPut i { crack i s with loops := (crack i s).loops.erase l } freed))) ∧
    (r.state = .intact ∨ r.state = .opening →
      exec (.disableLoop [1, b]) s = .next (answered 0x72 (doneWith []) (put { r with state := .unused, timer := none }))) ∧
    (r.state = .unused ∨ r.state = .broken →
      exec (.disableLoop [1, b]) s = .next (answered 0x72 (refusedFor .state) s))

/-- OPEN, CONFIRM, ARREST and RETIRE CRACK: the lowest VACANT record opened as the host says, a SUSPECT one confirmed
with the confirm derate, a CONFIRMED one arrested with the arrest derate, a SUSPECT or ARRESTED one vacated and its
loops unbound; each with its attention and the claim of the zone it touches, in the model's order (log 21). -/
def Obligations.CrackRequests : Prop :=
  (∀ (x0 x1 l0 l1 h0 h1 st d : Byte) (s : State), PortFree s →
    let frame : List Byte := [8, x0, x1, l0, l1, h0, h1, st, d]
    let x := u16 x0 x1
    let lo := u16 l0 l1
    let hi := u16 h0 h1
    let fits := lo ≤ x ∧ x ≤ hi ∧ hi ≤ 65000 ∧ d.toNat ≤ 100 ∧ (st = 1 ∨ st = 2)
    (¬ fits → exec (.openCrack frame) s = .next (answered 0x80 (refusedFor .range) s)) ∧
    (fits → (∀ i, (crack i s).state ≠ .vacant) →
      exec (.openCrack frame) s = .next (answered 0x80 (refusedFor .tableFull) s)) ∧
    (fits → ∀ i, (crack i s).state = .vacant → (∀ j, j < i → (crack j s).state ≠ .vacant) →
      let z := decodeStation x s
      exec (.openCrack frame) s = .next (answered 0x80 (doneWith [byteOf i.val])
        (crackEnded [.crackOpened] (touched s i z) [] (crackPut i
          { state := if st = 1 then .suspect else .confirmed, origin := some .inspection, seed := x, zone := z
            lo := lo, hi := hi, confWidth := if st = 1 then 0 else hi - lo, openedPass := s.lsq.passCount
            derate := d.toNat } s))))) ∧
  (∀ (b : Byte) (s : State), PortFree s → 48 ≤ b.toNat →
    exec (.confirmCrack [1, b]) s = .next (answered 0x81 (refusedFor .range) s) ∧
    exec (.arrestCrack [1, b]) s = .next (answered 0x82 (refusedFor .range) s) ∧
    exec (.retireCrack [1, b]) s = .next (answered 0x83 (refusedFor .range) s)) ∧
  ∀ (i : Fin Config.cracks) (b : Byte) (s : State), PortFree s → b.toNat = i.val →
    let r := crack i s
    let becomes := fun x : Crack => crackEnded [.crackState] (touched s i r.zone) [] (crackPut i x s)
    (r.state = .suspect → exec (.confirmCrack [1, b]) s = .next (answered 0x81 (doneWith []) (becomes
      { r with state := .confirmed, derate := s.cwu.confirmDerate, confWidth := r.hi - r.lo }))) ∧
    (r.state ≠ .suspect → exec (.confirmCrack [1, b]) s = .next (answered 0x81 (refusedFor .state) s)) ∧
    (r.state = .confirmed → exec (.arrestCrack [1, b]) s = .next (answered 0x82 (doneWith []) (becomes
      { r with state := .arrested, derate := s.cwu.arrestDerate }))) ∧
    (r.state ≠ .confirmed → exec (.arrestCrack [1, b]) s = .next (answered 0x82 (refusedFor .state) s)) ∧
    (r.state = .confirmed → exec (.retireCrack [1, b]) s = .next (answered 0x83 (refusedFor .confirmedHeld) s)) ∧
    (r.state = .vacant → exec (.retireCrack [1, b]) s = .next (answered 0x83 (refusedFor .state) s)) ∧
    (r.state = .suspect ∨ r.state = .arrested → ∃ t, exec (.retireCrack [1, b]) s = .next (answered 0x83 (doneWith [])
        (crackEnded [.crackState] (touched s i r.zone) [] t)) ∧
      t = { crackPut i {} s with cwu := { (crackPut i {} s).cwu with loops := t.cwu.loops } } ∧
      ∀ l, loop l t = if l ∈ r.loops then { loop l s with bound := none } else loop l s)

/-- A confirm timer's expiry breaks the loop and gives wire evidence at its station: it joins the qualifying record of
the least opened pass, then the lowest id, widening and confirming it or testing its growth; else it opens a CONFIRMED
record; with the table full it asks for a halt. A stopped timer has no expiry (log 5). That evidence inside the extent
tests growth is the model's reading (DEDUCED, log 14), and attention before claims and halt requests is its order (log
21). -/
def Obligations.WireEvidence : Prop :=
  (∀ (wire : Bool) (x : Nat) (s : State),
    let fits := fun i : Fin Config.cracks => (crack i s).state ≠ .vacant ∧ (crack i s).lo ≤ x + s.cwu.joinDistance ∧
      x ≤ (crack i s).hi + s.cwu.joinDistance ∧ (wire = true → (crack i s).loops.length < 8)
    (joinedRecord wire x s = none ↔ ∀ i, ¬ fits i) ∧
    ∀ i, joinedRecord wire x s = some i ↔ fits i ∧ ∀ j, fits j → j ≠ i →
      (crack i s).openedPass < (crack j s).openedPass ∨ ((crack i s).openedPass = (crack j s).openedPass ∧ i < j)) ∧
  ∀ (l : Fin Config.loops) (s : State), s.resetHeld = false →
    let r := loop l s
    let x := r.station
    let broken := fun (b : Option (Fin Config.cracks)) => { s with cwu := { s.cwu with
      loops := s.cwu.loops.set l { r with state := .broken, timer := none, bound := b } } }
    (r.timer = none → exec (.confirmTimerExpiry l) s = .next s) ∧
    (r.timer ≠ none →
      (∀ i, joinedRecord true x s = some i →
        let c := crack i s
        let wide := { c with lo := min c.lo x, hi := max c.hi x, loops := c.loops ++ [l] }
        let grown := s.cwu.growthLimit ≠ 0 ∧ s.cwu.growthLimit < (wide.hi - wide.lo) - c.confWidth ∧ c.growthHalt = false
        (c.state = .suspect ∨ c.state = .arrested → exec (.confirmTimerExpiry l) s = .next
          (crackEnded [.loopBroken, .crackState] (touched s i c.zone) [] (crackPut i
            { wide with state := .confirmed, derate := s.cwu.confirmDerate, confWidth := wide.hi - wide.lo }
            (broken (some i))))) ∧
        (c.state = .confirmed → ¬ grown → exec (.confirmTimerExpiry l) s = .next
          (crackEnded [.loopBroken] [] [] (crackPut i wide (broken (some i))))) ∧
        (c.state = .confirmed → grown → exec (.confirmTimerExpiry l) s = .next
          (crackEnded [.loopBroken, .crackState] [] [.crackGrowth]
            (crackPut i { wide with growthHalt := true } (broken (some i)))))) ∧
      (joinedRecord true x s = none →
        (∀ i, (crack i s).state = .vacant → (∀ j, j < i → (crack j s).state ≠ .vacant) →
          exec (.confirmTimerExpiry l) s = .next
            (crackEnded [.loopBroken, .crackOpened, .crackState] (touched s i (decodeStation x s)) [] (crackPut i
              { state := .confirmed, origin := some .wire, seed := x, zone := decodeStation x s, lo := x, hi := x
                confWidth := 0, openedPass := s.lsq.passCount, derate := s.cwu.confirmDerate, loops := [l] }
              (broken (some i))))) ∧
        ((∀ i, (crack i s).state ≠ .vacant) → exec (.confirmTimerExpiry l) s = .next
          (crackEnded [.loopBroken, .crackTableFull] [] [.crackTableFull] (broken r.bound)))))

/-- A unit is a good hit exactly when its bytes are A1H, sensor, time, amplitude and their check. A hit is discarded, found a
duplicate, appended to the pruned list (the oldest of 32 leaving), or paired with the
oldest entry of a neighbour within their window: located between the two, dropped below the significant amplitude, and
otherwise acoustic evidence, which joins a record or counts in the tally of its zone. That evidence inside the extent tests
growth is the model's reading (DEDUCED, log 14), and attention before the halt request is its order (log 21). -/
def Obligations.HitArrival : Prop :=
  (∀ (unit : List Byte) (raw : RawHit), parseHit unit = some raw ↔ ∃ sensor t0 t1 t2 t3 amplitude : Byte,
    unit = sealUnit [0xA1, sensor, t0, t1, t2, t3, amplitude] ∧ raw = {
      sensor := sensor.toNat, amplitude := amplitude.toNat
      time := BitVec.ofNat 32 (t0.toNat + 256 * t1.toNat + 65536 * t2.toNat + 16777216 * t3.toNat) }) ∧
  (∀ s : State,
    let line := sensorLine s
    let neighbours := fun a b : Fin Config.sensors => ∃ pre post, line = pre ++ a :: b :: post
    let window := fun a b : Fin Config.sensors =>
      ((sensor b s).station - (sensor a s).station) * 256 / s.cwu.waveSpeed + s.cwu.margin
    (line.Pairwise fun a b => (sensor a s).station ≤ (sensor b s).station) ∧ line.Nodup ∧
    (∀ c, c ∈ line ↔ (sensor c s).enabled = true) ∧
    (∀ a b, neighbours a b → window a b ≤ largestWindow s) ∧
    (largestWindow s = 0 ∨ ∃ a b, neighbours a b ∧ largestWindow s = window a b) ∧
    ∀ h e : Hit, pairsWith s h e = true ↔ ∃ a b, neighbours a b ∧
      ((a = e.sensor ∧ b = h.sensor) ∨ (a = h.sensor ∧ b = e.sensor)) ∧
      (h.time - e.time).toInt.natAbs ≤ window a b) ∧
  ∀ (unit : List Byte) (s : State), s.resetHeld = false →
    let withHits := fun hs : List Hit => { s with cwu := { s.cwu with hits := hs } }
    (parseHit unit = none → exec (.hit unit) s = .next s) ∧
    (∀ raw, parseHit unit = some raw → 16 ≤ raw.sensor → exec (.hit unit) s = .next s) ∧
    ∀ raw (c : Fin Config.sensors), parseHit unit = some raw → raw.sensor = c.val →
      let ok := (sensor c s).enabled = true ∧ 30 ≤ raw.amplitude ∧ raw.amplitude ≤ 100
      let h : Hit := { sensor := c, time := raw.time, amplitude := raw.amplitude }
      let kept := s.cwu.hits.filter fun e => decide ((h.time - e.time).toInt ≤ largestWindow s)
      let twin := ∃ e ∈ kept, e.sensor = c ∧ e.time = h.time
      (¬ ok → exec (.hit unit) s = .next s) ∧
      (ok → twin → exec (.hit unit) s = .next (withHits kept)) ∧
      (ok → ¬ twin → (∀ e ∈ kept, pairsWith s h e = false) → exec (.hit unit) s =
        .next (withHits ((if 32 ≤ kept.length then kept.drop 1 else kept) ++ [h]))) ∧
      (ok → ¬ twin → ∀ pre e post, kept = pre ++ e :: post → (∀ d ∈ pre, pairsWith s h d = false) →
        pairsWith s h e = true →
        let left := withHits (kept.erase e)
        let eLow := (sensor e.sensor s).station ≤ (sensor c s).station
        let xa := min (sensor e.sensor s).station (sensor c s).station
        let xb := max (sensor e.sensor s).station (sensor c s).station
        let late : Int := if eLow then (e.time - h.time).toInt else (h.time - e.time).toInt
        let mid : Int := ((xa + xb) / 2 : Nat) + (s.cwu.waveSpeed * late).tdiv 512
        let x := (max (xa : Int) (min (xb : Int) mid)).toNat
        let z := decodeStation x s
        let t := s.cwu.tallies.getD z {}
        let counted : Tally :=
          { count := t.count + 1, sum := t.sum + x, min := some (t.min.elim x (Nat.min x)),
            max := some (t.max.elim x (Nat.max x)) }
        let loud := s.cwu.sigAmp ≤ max raw.amplitude e.amplitude
        (¬ loud → exec (.hit unit) s = .next left) ∧
        (loud → joinedRecord false x s = none → exec (.hit unit) s = .next
          { left with cwu := { left.cwu with
            tallies := s.cwu.tallies.setD z (if 65535 ≤ t.count then t else counted) } }) ∧
        (loud → ∀ i, joinedRecord false x s = some i →
          let c := crack i s
          let wide := { c with lo := min c.lo x, hi := max c.hi x, hits := min 65535 (c.hits + 1) }
          let grown := s.cwu.growthLimit ≠ 0 ∧ s.cwu.growthLimit < (wide.hi - wide.lo) - c.confWidth ∧
            c.growthHalt = false
          (c.state = .suspect ∨ (c.state = .confirmed ∧ ¬ grown) →
            exec (.hit unit) s = .next (crackPut i wide left)) ∧
          (c.state = .confirmed → grown → exec (.hit unit) s = .next
            (crackEnded [.crackState] [] [.crackGrowth] (crackPut i { wide with growthHalt := true } left))) ∧
          (c.state = .arrested → exec (.hit unit) s = .next
            (crackEnded [.crackState] (touched s i c.zone) [] (crackPut i
              { wide with state := .confirmed, derate := s.cwu.confirmDerate, confWidth := wide.hi - wide.lo }
              left)))))

/-- An interval close at CWU: every open record's runs follow its hits, a SUSPECT record is confirmed or lapses, each
tally at or above the threshold opens a SUSPECT record in the lowest VACANT id or finds the table full, the tallies
are cleared, and each touched zone gets one claim. Nothing else changes. That a class is raised once (log 15), and
attention before claims (log 21), are the model's choices. -/
def Obligations.IntervalCloseAtCrackWatch : Prop :=
  ∀ (n : BitVec 16) (s : State), s.resetHeld = false → ∃ t, exec (.cwuIntervalClose n) s = .next t ∧
    let judged := fun i : Fin Config.cracks =>
      let r := crack i s
      if r.state = .vacant then r
      else if s.cwu.threshold ≤ r.hits then { r with activeRun := min 15 (r.activeRun + 1), quietRun := 0, hits := 0 }
      else { r with activeRun := 0, quietRun := min 63 (r.quietRun + 1), hits := 0 }
    let confirms := fun i => (judged i).state = .suspect ∧ s.cwu.confirmRun ≤ (judged i).activeRun
    let lapses := fun i => (judged i).state = .suspect ∧ (judged i).activeRun < s.cwu.confirmRun ∧
      s.cwu.lapseRun ≤ (judged i).quietRun
    let settled : Fin Config.cracks → Crack := fun i =>
      let r := judged i
      if confirms i then { r with state := .confirmed, derate := s.cwu.confirmDerate, confWidth := r.hi - r.lo }
      else if lapses i then {} else r
    let free := (List.finRange 48).filter fun i => (settled i).state == .vacant
    let full := (List.finRange 32).filter fun z => decide (s.cwu.threshold ≤ (s.cwu.tallies.get z).count)
    let opened := free.zip full
    let seed := fun z : Fin Config.zones => (s.cwu.tallies.get z).sum / (s.cwu.tallies.get z).count
    t = { s with
      cwu := { s.cwu with cracks := t.cwu.cracks, loops := t.cwu.loops, tallies := Table.fill _ {} }
      transit := t.transit } ∧
    (∀ i, (∀ x ∈ opened, x.1 ≠ i) → crack i t = settled i) ∧
    (∀ x ∈ opened, crack x.1 t =
      { state := .suspect, origin := some .ae, seed := seed x.2, zone := decodeStation (seed x.2) s
        lo := (s.cwu.tallies.get x.2).min.getD 0, hi := (s.cwu.tallies.get x.2).max.getD 0
        openedPass := s.lsq.passCount, derate := 100 }) ∧
    (∀ l, loop l t =
      if ∃ i, lapses i ∧ l ∈ (crack i s).loops then { loop l s with bound := none } else loop l s) ∧
    ∃ zones : List Nat, zones.Nodup ∧
      (∀ z, z ∈ zones ↔ (∃ i, (confirms i ∨ lapses i) ∧ crackPassed s i.val = true ∧ (crack i s).zone = z) ∨
        ∃ x ∈ opened, crackPassed s x.1.val = true ∧ decodeStation (seed x.2) s = z) ∧
      t.transit = s.transit.erase (.cwuIntervalClose n) ++
        (if ∃ i, confirms i ∨ lapses i then [.attentionEventReport .crackState] else []) ++
        (if opened = [] then [] else [.attentionEventReport .crackOpened]) ++
        (if free.length < full.length then [.attentionEventReport .crackTableFull] else []) ++
        zones.map (crackClaim t)

/-- Host writes to gauge, loop, sensor and crack records and to the settings of GSC and CWU: the states that take each
field, its range, its relations and its key, the reason each skip carries, and what a taken write stores. -/
def Obligations.WatchSideFieldWrites : Prop :=
  (∀ (i : Fin Config.gauges) (v : Word) (s : State),
    let g := gauge i s
    let n := v.toNat
    let x := v.toInt
    let write := fun f : Nat => writeCell .gauges i.val f v s
    let put := fun y : Gauge => ({ s with gsc := { s.gsc with gauges := s.gsc.gauges.set i y } }, (none : Option Reason))
    let field := fun (f : Nat) (ok : Prop) (y : Gauge) => (ok → write f = put y) ∧ (¬ ok → write f = (s, some .range))
    let related := fun l : LimitSet => l.lower + 2 * l.hyst < l.upper
    let limits := fun (base : Nat) (l : LimitSet) (with' : LimitSet → Gauge) =>
      field base (-32000 ≤ x ∧ x ≤ 32000 ∧ related { l with upper := x }) (with' { l with upper := x }) ∧
      field (base + 1) (-32000 ≤ x ∧ x ≤ 32000 ∧ related { l with lower := x }) (with' { l with lower := x }) ∧
      field (base + 2) (n ∈ [50, 60, 70, 80, 90]) (with' { l with alertPct := n }) ∧
      field (base + 3) (n ≤ 1000 ∧ related { l with hyst := n }) (with' { l with hyst := n }) ∧
      field (base + 4) (1 ≤ n ∧ n ≤ 15) (with' { l with declare := n })
    (g.state = .vacant → ∀ f, write f = (s, some .vacant)) ∧
    (g.state ≠ .vacant →
      (∀ f, f = 1 ∨ f = 2 → g.state ≠ .suspended → write f = (s, some .state)) ∧
      (g.state = .suspended → 4 ≤ n → write 1 = (s, some .range)) ∧
      (g.state = .suspended → 128 ≤ n → write 2 = (s, some .range)) ∧
      (∀ (f : Nat) (k : Fin Config.scanners) (ch : Fin Config.channels), g.state = .suspended →
        (f = 1 ∧ n = k.val ∧ ch = g.channel) ∨ (f = 2 ∧ k = g.scanner ∧ n = ch.val) →
        let held := s.gsc.chanMap.getD (k.val * 128 + ch.val) none
        (held = some i → write f = (s, none)) ∧
        (∀ j, held = some j → j ≠ i → write f = (s, some .keyInUse)) ∧
        (held = none → write f = ({ s with gsc := { s.gsc with
            gauges := s.gsc.gauges.set i { g with scanner := k, channel := ch }
            chanMap := (s.gsc.chanMap.setD (g.scanner.val * 128 + g.channel.val) none).setD
              (k.val * 128 + ch.val) (some i) } }, none))) ∧
      field 3 (n ≤ 65000) { g with station := n, zone := decodeStation n s } ∧
      field 7 (-32000 ≤ x ∧ x ≤ 32000) { g with zero := x } ∧
      limits 10 g.setA (fun l => { g with setA := l }) ∧ limits 15 g.setB (fun l => { g with setB := l }) ∧
      field 33 (-32000 ≤ x ∧ x ≤ 32000) { g with shuntStep := x } ∧ field 34 (n ≤ 1000) { g with shuntTol := n } ∧
      ∀ f, f ∈ [0, 4, 5, 6, 8, 9] ∨ (20 ≤ f ∧ f ≤ 32) ∨ 34 < f → write f = (s, some .readOnly))) ∧
  (∀ (l : Fin Config.loops) (v : Word) (s : State),
    let r := loop l s
    let n := v.toNat
    let write := fun f : Nat => writeCell .loops l.val f v s
    let put := fun y : Loop => ({ s with cwu := { s.cwu with loops := s.cwu.loops.set l y } }, (none : Option Reason))
    (r.state ≠ .unused → write 0 = (s, some .state)) ∧
    (r.state = .unused → 65000 < n → write 0 = (s, some .range)) ∧
    (r.state = .unused → n ≤ 65000 → write 0 = put { r with station := n, zone := decodeStation n s }) ∧
    (10 ≤ n ∧ n ≤ 2550 ∧ n % 10 = 0 → write 3 = put { r with confirmTime := n }) ∧
    (¬ (10 ≤ n ∧ n ≤ 2550 ∧ n % 10 = 0) → write 3 = (s, some .range)) ∧
    ∀ f, f ≠ 0 → f ≠ 3 → write f = (s, some .readOnly)) ∧
  (∀ (c : Fin Config.sensors) (v : Word) (s : State),
    let r := sensor c s
    let n := v.toNat
    let write := fun f : Nat => writeCell .sensors c.val f v s
    let shared := fun x : Nat => ∃ d, d ≠ c ∧ (sensor d s).enabled = true ∧ (sensor d s).station = x
    let put := fun (y : Sensor) (forget : Bool) => ({ s with cwu := { s.cwu with
      sensors := s.cwu.sensors.set c y
      hits := if forget then s.cwu.hits.filter fun h => h.sensor != c else s.cwu.hits } }, (none : Option Reason))
    (65000 < n → write 0 = (s, some .range)) ∧
    (n ≤ 65000 → r.enabled = true → shared n → write 0 = (s, some .station)) ∧
    (n ≤ 65000 → r.enabled = false ∨ ¬ shared n →
      write 0 = put { r with station := n, zone := decodeStation n s } (r.enabled && r.station != n)) ∧
    (1 < n → write 2 = (s, some .range)) ∧
    (n = 1 → r.enabled = false → shared r.station → write 2 = (s, some .station)) ∧
    (n = 1 → r.enabled = true ∨ ¬ shared r.station → write 2 = put { r with enabled := true } false) ∧
    (n = 0 → write 2 = put { r with enabled := false } r.enabled) ∧
    ∀ f, f ≠ 0 → f ≠ 2 → write f = (s, some .readOnly)) ∧
  (∀ (i : Fin Config.cracks) (v : Word) (s : State),
    let r := crack i s
    let n := v.toNat
    let write := fun f : Nat => writeCell .cracks i.val f v s
    (r.state = .vacant → ∀ f, write f = (s, some .vacant)) ∧
    (r.state = .suspect → write 9 = (s, some .state)) ∧
    (r.state = .confirmed ∨ r.state = .arrested → 100 < n → write 9 = (s, some .range)) ∧
    (r.state = .confirmed ∨ r.state = .arrested → n ≤ 100 → write 9 = (crackPut i { r with derate := n } s, none)) ∧
    (r.state ≠ .vacant → 65535 < n → write 23 = (s, some .range)) ∧
    (r.state ≠ .vacant → n ≤ 65535 → write 23 = (crackPut i { r with note := n } s, none)) ∧
    ∀ f, r.state ≠ .vacant → f ≠ 9 → f ≠ 23 → write f = (s, some .readOnly)) ∧
  ∀ (v : Word) (s : State),
    let n := v.toNat
    let field := fun (f lo hi : Nat) (t : State) =>
      (lo ≤ n → n ≤ hi → writeCell .settings 0 f v s = (t, none)) ∧
      (n < lo ∨ hi < n → writeCell .settings 0 f v s = (s, some .range))
    field 13 10 5000 { s with gsc := { s.gsc with linkTimeout := n } } ∧
    field 18 256 2048 { s with cwu := { s.cwu with waveSpeed := n } } ∧
    field 19 0 255 { s with cwu := { s.cwu with margin := n } } ∧
    field 20 30 100 { s with cwu := { s.cwu with sigAmp := n } } ∧
    field 21 1 15 { s with cwu := { s.cwu with confirmRun := n } } ∧
    field 22 1 63 { s with cwu := { s.cwu with lapseRun := n } } ∧
    field 23 1 255 { s with cwu := { s.cwu with threshold := n } } ∧
    field 24 0 2000 { s with cwu := { s.cwu with joinDistance := n } } ∧
    field 25 0 100 { s with cwu := { s.cwu with confirmDerate := n } } ∧
    field 26 0 100 { s with cwu := { s.cwu with arrestDerate := n } } ∧
    field 27 0 10000 { s with cwu := { s.cwu with
      growthLimit := n, cracks := s.cwu.cracks.map fun r => { r with growthHalt := false } } }

/-! ### Frames -/

/-- The bytes of a request frame name the command and its operand: reading the frame of a well-formed request command
gives that command back. -/
def Obligations.FramesReadBack : Prop :=
  ∀ (c : Instr) (frame : List Byte), c.wf = true → encodeFrame c = some frame → decodeFrame frame = some c
end

