-- ==== Sys2Proof/Laws/State.lean ====
section
/-! SUPPORT. Laws/State.lean: what each named update of the state does to each of its fields: one lemma per field per
update, true by definition. -/
namespace Sys2Proof.Machine

variable (s : State)

/-! ### onSp -/

@[simp] theorem onSp_pending (f : Sp → Sp) : (onSp f s).pending = s.pending := rfl
@[simp] theorem onSp_transit (f : Sp → Sp) : (onSp f s).transit = s.transit := rfl
@[simp] theorem onSp_sent (f : Sp → Sp) : (onSp f s).sent = s.sent := rfl
@[simp] theorem onSp_resetHeld (f : Sp → Sp) : (onSp f s).resetHeld = s.resetHeld := rfl
@[simp] theorem onSp_loopInputs (f : Sp → Sp) : (onSp f s).loopInputs = s.loopInputs := rfl
@[simp] theorem onSp_sp (f : Sp → Sp) : (onSp f s).sp = f s.sp := rfl
@[simp] theorem onSp_zdu (f : Sp → Sp) : (onSp f s).zdu = s.zdu := rfl
@[simp] theorem onSp_ach (f : Sp → Sp) : (onSp f s).ach = s.ach := rfl
@[simp] theorem onSp_lsq (f : Sp → Sp) : (onSp f s).lsq = s.lsq := rfl
@[simp] theorem onSp_gsc (f : Sp → Sp) : (onSp f s).gsc = s.gsc := rfl
@[simp] theorem onSp_cwu (f : Sp → Sp) : (onSp f s).cwu = s.cwu := rfl

/-! ### onZdu -/

@[simp] theorem onZdu_pending (f : Zdu → Zdu) : (onZdu f s).pending = s.pending := rfl
@[simp] theorem onZdu_transit (f : Zdu → Zdu) : (onZdu f s).transit = s.transit := rfl
@[simp] theorem onZdu_sent (f : Zdu → Zdu) : (onZdu f s).sent = s.sent := rfl
@[simp] theorem onZdu_resetHeld (f : Zdu → Zdu) : (onZdu f s).resetHeld = s.resetHeld := rfl
@[simp] theorem onZdu_loopInputs (f : Zdu → Zdu) : (onZdu f s).loopInputs = s.loopInputs := rfl
@[simp] theorem onZdu_sp (f : Zdu → Zdu) : (onZdu f s).sp = s.sp := rfl
@[simp] theorem onZdu_zdu (f : Zdu → Zdu) : (onZdu f s).zdu = f s.zdu := rfl
@[simp] theorem onZdu_ach (f : Zdu → Zdu) : (onZdu f s).ach = s.ach := rfl
@[simp] theorem onZdu_lsq (f : Zdu → Zdu) : (onZdu f s).lsq = s.lsq := rfl
@[simp] theorem onZdu_gsc (f : Zdu → Zdu) : (onZdu f s).gsc = s.gsc := rfl
@[simp] theorem onZdu_cwu (f : Zdu → Zdu) : (onZdu f s).cwu = s.cwu := rfl

/-! ### onAch -/

@[simp] theorem onAch_pending (f : Ach → Ach) : (onAch f s).pending = s.pending := rfl
@[simp] theorem onAch_transit (f : Ach → Ach) : (onAch f s).transit = s.transit := rfl
@[simp] theorem onAch_sent (f : Ach → Ach) : (onAch f s).sent = s.sent := rfl
@[simp] theorem onAch_resetHeld (f : Ach → Ach) : (onAch f s).resetHeld = s.resetHeld := rfl
@[simp] theorem onAch_loopInputs (f : Ach → Ach) : (onAch f s).loopInputs = s.loopInputs := rfl
@[simp] theorem onAch_sp (f : Ach → Ach) : (onAch f s).sp = s.sp := rfl
@[simp] theorem onAch_zdu (f : Ach → Ach) : (onAch f s).zdu = s.zdu := rfl
@[simp] theorem onAch_ach (f : Ach → Ach) : (onAch f s).ach = f s.ach := rfl
@[simp] theorem onAch_lsq (f : Ach → Ach) : (onAch f s).lsq = s.lsq := rfl
@[simp] theorem onAch_gsc (f : Ach → Ach) : (onAch f s).gsc = s.gsc := rfl
@[simp] theorem onAch_cwu (f : Ach → Ach) : (onAch f s).cwu = s.cwu := rfl

/-! ### onLsq -/

@[simp] theorem onLsq_pending (f : Lsq → Lsq) : (onLsq f s).pending = s.pending := rfl
@[simp] theorem onLsq_transit (f : Lsq → Lsq) : (onLsq f s).transit = s.transit := rfl
@[simp] theorem onLsq_sent (f : Lsq → Lsq) : (onLsq f s).sent = s.sent := rfl
@[simp] theorem onLsq_resetHeld (f : Lsq → Lsq) : (onLsq f s).resetHeld = s.resetHeld := rfl
@[simp] theorem onLsq_loopInputs (f : Lsq → Lsq) : (onLsq f s).loopInputs = s.loopInputs := rfl
@[simp] theorem onLsq_sp (f : Lsq → Lsq) : (onLsq f s).sp = s.sp := rfl
@[simp] theorem onLsq_zdu (f : Lsq → Lsq) : (onLsq f s).zdu = s.zdu := rfl
@[simp] theorem onLsq_ach (f : Lsq → Lsq) : (onLsq f s).ach = s.ach := rfl
@[simp] theorem onLsq_lsq (f : Lsq → Lsq) : (onLsq f s).lsq = f s.lsq := rfl
@[simp] theorem onLsq_gsc (f : Lsq → Lsq) : (onLsq f s).gsc = s.gsc := rfl
@[simp] theorem onLsq_cwu (f : Lsq → Lsq) : (onLsq f s).cwu = s.cwu := rfl

/-! ### onGsc -/

@[simp] theorem onGsc_pending (f : Gsc → Gsc) : (onGsc f s).pending = s.pending := rfl
@[simp] theorem onGsc_transit (f : Gsc → Gsc) : (onGsc f s).transit = s.transit := rfl
@[simp] theorem onGsc_sent (f : Gsc → Gsc) : (onGsc f s).sent = s.sent := rfl
@[simp] theorem onGsc_resetHeld (f : Gsc → Gsc) : (onGsc f s).resetHeld = s.resetHeld := rfl
@[simp] theorem onGsc_loopInputs (f : Gsc → Gsc) : (onGsc f s).loopInputs = s.loopInputs := rfl
@[simp] theorem onGsc_sp (f : Gsc → Gsc) : (onGsc f s).sp = s.sp := rfl
@[simp] theorem onGsc_zdu (f : Gsc → Gsc) : (onGsc f s).zdu = s.zdu := rfl
@[simp] theorem onGsc_ach (f : Gsc → Gsc) : (onGsc f s).ach = s.ach := rfl
@[simp] theorem onGsc_lsq (f : Gsc → Gsc) : (onGsc f s).lsq = s.lsq := rfl
@[simp] theorem onGsc_gsc (f : Gsc → Gsc) : (onGsc f s).gsc = f s.gsc := rfl
@[simp] theorem onGsc_cwu (f : Gsc → Gsc) : (onGsc f s).cwu = s.cwu := rfl

/-! ### onCwu -/

@[simp] theorem onCwu_pending (f : Cwu → Cwu) : (onCwu f s).pending = s.pending := rfl
@[simp] theorem onCwu_transit (f : Cwu → Cwu) : (onCwu f s).transit = s.transit := rfl
@[simp] theorem onCwu_sent (f : Cwu → Cwu) : (onCwu f s).sent = s.sent := rfl
@[simp] theorem onCwu_resetHeld (f : Cwu → Cwu) : (onCwu f s).resetHeld = s.resetHeld := rfl
@[simp] theorem onCwu_loopInputs (f : Cwu → Cwu) : (onCwu f s).loopInputs = s.loopInputs := rfl
@[simp] theorem onCwu_sp (f : Cwu → Cwu) : (onCwu f s).sp = s.sp := rfl
@[simp] theorem onCwu_zdu (f : Cwu → Cwu) : (onCwu f s).zdu = s.zdu := rfl
@[simp] theorem onCwu_ach (f : Cwu → Cwu) : (onCwu f s).ach = s.ach := rfl
@[simp] theorem onCwu_lsq (f : Cwu → Cwu) : (onCwu f s).lsq = s.lsq := rfl
@[simp] theorem onCwu_gsc (f : Cwu → Cwu) : (onCwu f s).gsc = s.gsc := rfl
@[simp] theorem onCwu_cwu (f : Cwu → Cwu) : (onCwu f s).cwu = f s.cwu := rfl

/-! ### send -/

@[simp] theorem send_pending (m : Instr) : (send m s).pending = s.pending := rfl
@[simp] theorem send_transit (m : Instr) : (send m s).transit = s.transit ++ [m] := rfl
@[simp] theorem send_sent (m : Instr) : (send m s).sent = s.sent := rfl
@[simp] theorem send_resetHeld (m : Instr) : (send m s).resetHeld = s.resetHeld := rfl
@[simp] theorem send_loopInputs (m : Instr) : (send m s).loopInputs = s.loopInputs := rfl
@[simp] theorem send_sp (m : Instr) : (send m s).sp = s.sp := rfl
@[simp] theorem send_zdu (m : Instr) : (send m s).zdu = s.zdu := rfl
@[simp] theorem send_ach (m : Instr) : (send m s).ach = s.ach := rfl
@[simp] theorem send_lsq (m : Instr) : (send m s).lsq = s.lsq := rfl
@[simp] theorem send_gsc (m : Instr) : (send m s).gsc = s.gsc := rfl
@[simp] theorem send_cwu (m : Instr) : (send m s).cwu = s.cwu := rfl

/-! ### sendAll -/

@[simp] theorem sendAll_pending (ms : List Instr) : (sendAll ms s).pending = s.pending := rfl
@[simp] theorem sendAll_transit (ms : List Instr) : (sendAll ms s).transit = s.transit ++ ms := rfl
@[simp] theorem sendAll_sent (ms : List Instr) : (sendAll ms s).sent = s.sent := rfl
@[simp] theorem sendAll_resetHeld (ms : List Instr) : (sendAll ms s).resetHeld = s.resetHeld := rfl
@[simp] theorem sendAll_loopInputs (ms : List Instr) : (sendAll ms s).loopInputs = s.loopInputs := rfl
@[simp] theorem sendAll_sp (ms : List Instr) : (sendAll ms s).sp = s.sp := rfl
@[simp] theorem sendAll_zdu (ms : List Instr) : (sendAll ms s).zdu = s.zdu := rfl
@[simp] theorem sendAll_ach (ms : List Instr) : (sendAll ms s).ach = s.ach := rfl
@[simp] theorem sendAll_lsq (ms : List Instr) : (sendAll ms s).lsq = s.lsq := rfl
@[simp] theorem sendAll_gsc (ms : List Instr) : (sendAll ms s).gsc = s.gsc := rfl
@[simp] theorem sendAll_cwu (ms : List Instr) : (sendAll ms s).cwu = s.cwu := rfl

/-! ### arrive -/

@[simp] theorem arrive_pending (m : Instr) : (arrive m s).pending = s.pending := rfl
@[simp] theorem arrive_transit (m : Instr) : (arrive m s).transit = s.transit.erase m := rfl
@[simp] theorem arrive_sent (m : Instr) : (arrive m s).sent = s.sent := rfl
@[simp] theorem arrive_resetHeld (m : Instr) : (arrive m s).resetHeld = s.resetHeld := rfl
@[simp] theorem arrive_loopInputs (m : Instr) : (arrive m s).loopInputs = s.loopInputs := rfl
@[simp] theorem arrive_sp (m : Instr) : (arrive m s).sp = s.sp := rfl
@[simp] theorem arrive_zdu (m : Instr) : (arrive m s).zdu = s.zdu := rfl
@[simp] theorem arrive_ach (m : Instr) : (arrive m s).ach = s.ach := rfl
@[simp] theorem arrive_lsq (m : Instr) : (arrive m s).lsq = s.lsq := rfl
@[simp] theorem arrive_gsc (m : Instr) : (arrive m s).gsc = s.gsc := rfl
@[simp] theorem arrive_cwu (m : Instr) : (arrive m s).cwu = s.cwu := rfl

/-! ### raise -/

@[simp] theorem raise_pending (c : EventClass) : (raise c s).pending = s.pending := rfl
@[simp] theorem raise_transit (c : EventClass) : (raise c s).transit = s.transit ++ [.attentionEventReport c] := rfl
@[simp] theorem raise_sent (c : EventClass) : (raise c s).sent = s.sent := rfl
@[simp] theorem raise_resetHeld (c : EventClass) : (raise c s).resetHeld = s.resetHeld := rfl
@[simp] theorem raise_loopInputs (c : EventClass) : (raise c s).loopInputs = s.loopInputs := rfl
@[simp] theorem raise_sp (c : EventClass) : (raise c s).sp = s.sp := rfl
@[simp] theorem raise_zdu (c : EventClass) : (raise c s).zdu = s.zdu := rfl
@[simp] theorem raise_ach (c : EventClass) : (raise c s).ach = s.ach := rfl
@[simp] theorem raise_lsq (c : EventClass) : (raise c s).lsq = s.lsq := rfl
@[simp] theorem raise_gsc (c : EventClass) : (raise c s).gsc = s.gsc := rfl
@[simp] theorem raise_cwu (c : EventClass) : (raise c s).cwu = s.cwu := rfl

/-! ### transmit -/

@[simp] theorem transmit_pending (l : Link) (u : List Byte) : (transmit l u s).pending = s.pending := rfl
@[simp] theorem transmit_transit (l : Link) (u : List Byte) : (transmit l u s).transit = s.transit := rfl
@[simp] theorem transmit_sent (l : Link) (u : List Byte) : (transmit l u s).sent = s.sent ++ [⟨l, u⟩] := rfl
@[simp] theorem transmit_resetHeld (l : Link) (u : List Byte) : (transmit l u s).resetHeld = s.resetHeld := rfl
@[simp] theorem transmit_loopInputs (l : Link) (u : List Byte) : (transmit l u s).loopInputs = s.loopInputs := rfl
@[simp] theorem transmit_sp (l : Link) (u : List Byte) : (transmit l u s).sp = s.sp := rfl
@[simp] theorem transmit_zdu (l : Link) (u : List Byte) : (transmit l u s).zdu = s.zdu := rfl
@[simp] theorem transmit_ach (l : Link) (u : List Byte) : (transmit l u s).ach = s.ach := rfl
@[simp] theorem transmit_lsq (l : Link) (u : List Byte) : (transmit l u s).lsq = s.lsq := rfl
@[simp] theorem transmit_gsc (l : Link) (u : List Byte) : (transmit l u s).gsc = s.gsc := rfl
@[simp] theorem transmit_cwu (l : Link) (u : List Byte) : (transmit l u s).cwu = s.cwu := rfl

/-! ### occupySlot -/

@[simp] theorem occupySlot_pending (code : Byte) : (occupySlot code s).pending = s.pending := rfl
@[simp] theorem occupySlot_transit (code : Byte) : (occupySlot code s).transit = s.transit := rfl
@[simp] theorem occupySlot_sent (code : Byte) : (occupySlot code s).sent = s.sent := rfl
@[simp] theorem occupySlot_resetHeld (code : Byte) : (occupySlot code s).resetHeld = s.resetHeld := rfl
@[simp] theorem occupySlot_loopInputs (code : Byte) : (occupySlot code s).loopInputs = s.loopInputs := rfl
@[simp] theorem occupySlot_sp (code : Byte) : (occupySlot code s).sp = { s.sp with slot := .working code } := rfl
@[simp] theorem occupySlot_zdu (code : Byte) : (occupySlot code s).zdu = s.zdu := rfl
@[simp] theorem occupySlot_ach (code : Byte) : (occupySlot code s).ach = s.ach := rfl
@[simp] theorem occupySlot_lsq (code : Byte) : (occupySlot code s).lsq = s.lsq := rfl
@[simp] theorem occupySlot_gsc (code : Byte) : (occupySlot code s).gsc = s.gsc := rfl
@[simp] theorem occupySlot_cwu (code : Byte) : (occupySlot code s).cwu = s.cwu := rfl

/-! ### endAmend -/

@[simp] theorem endAmend_pending : (endAmend s).pending = s.pending := rfl
@[simp] theorem endAmend_transit : (endAmend s).transit = s.transit := rfl
@[simp] theorem endAmend_sent : (endAmend s).sent = s.sent := rfl
@[simp] theorem endAmend_resetHeld : (endAmend s).resetHeld = s.resetHeld := rfl
@[simp] theorem endAmend_loopInputs : (endAmend s).loopInputs = s.loopInputs := rfl
@[simp] theorem endAmend_sp : (endAmend s).sp = { s.sp with amend := false } := rfl
@[simp] theorem endAmend_zdu : (endAmend s).zdu = s.zdu := rfl
@[simp] theorem endAmend_ach : (endAmend s).ach = s.ach := rfl
@[simp] theorem endAmend_lsq : (endAmend s).lsq = s.lsq := rfl
@[simp] theorem endAmend_gsc : (endAmend s).gsc = s.gsc := rfl
@[simp] theorem endAmend_cwu : (endAmend s).cwu = s.cwu := rfl

/-! ### postAnswer -/

@[simp] theorem postAnswer_pending (code : Byte) (r : Reply) : (postAnswer code r s).pending = s.pending := rfl
@[simp] theorem postAnswer_transit (code : Byte) (r : Reply) :
    (postAnswer code r s).transit = s.transit ++ [.answerToSlot none] := rfl
@[simp] theorem postAnswer_sent (code : Byte) (r : Reply) : (postAnswer code r s).sent = s.sent := rfl
@[simp] theorem postAnswer_resetHeld (code : Byte) (r : Reply) : (postAnswer code r s).resetHeld = s.resetHeld := rfl
@[simp] theorem postAnswer_loopInputs (code : Byte) (r : Reply) :
    (postAnswer code r s).loopInputs = s.loopInputs := rfl
@[simp] theorem postAnswer_sp (code : Byte) (r : Reply) :
    (postAnswer code r s).sp = { s.sp with answer := some { request := code, reply := r } } := rfl
@[simp] theorem postAnswer_zdu (code : Byte) (r : Reply) : (postAnswer code r s).zdu = s.zdu := rfl
@[simp] theorem postAnswer_ach (code : Byte) (r : Reply) : (postAnswer code r s).ach = s.ach := rfl
@[simp] theorem postAnswer_lsq (code : Byte) (r : Reply) : (postAnswer code r s).lsq = s.lsq := rfl
@[simp] theorem postAnswer_gsc (code : Byte) (r : Reply) : (postAnswer code r s).gsc = s.gsc := rfl
@[simp] theorem postAnswer_cwu (code : Byte) (r : Reply) : (postAnswer code r s).cwu = s.cwu := rfl

/-! ### askOwners -/

@[simp] theorem askOwners_pending (g : Gather) : (askOwners g s).pending = s.pending := rfl
@[simp] theorem askOwners_transit (g : Gather) :
    (askOwners g s).transit = s.transit ++ g.waiting.map fun b => .answerToSlot (some b) := rfl
@[simp] theorem askOwners_sent (g : Gather) : (askOwners g s).sent = s.sent := rfl
@[simp] theorem askOwners_resetHeld (g : Gather) : (askOwners g s).resetHeld = s.resetHeld := rfl
@[simp] theorem askOwners_loopInputs (g : Gather) : (askOwners g s).loopInputs = s.loopInputs := rfl
@[simp] theorem askOwners_sp (g : Gather) : (askOwners g s).sp = { s.sp with gather := some g } := rfl
@[simp] theorem askOwners_zdu (g : Gather) : (askOwners g s).zdu = s.zdu := rfl
@[simp] theorem askOwners_ach (g : Gather) : (askOwners g s).ach = s.ach := rfl
@[simp] theorem askOwners_lsq (g : Gather) : (askOwners g s).lsq = s.lsq := rfl
@[simp] theorem askOwners_gsc (g : Gather) : (askOwners g s).gsc = s.gsc := rfl
@[simp] theorem askOwners_cwu (g : Gather) : (askOwners g s).cwu = s.cwu := rfl

/-! ### setZone -/

@[simp] theorem setZone_pending (z : Nat) (e : ZoneEntry) : (setZone z e s).pending = s.pending := rfl
@[simp] theorem setZone_transit (z : Nat) (e : ZoneEntry) : (setZone z e s).transit = s.transit := rfl
@[simp] theorem setZone_sent (z : Nat) (e : ZoneEntry) : (setZone z e s).sent = s.sent := rfl
@[simp] theorem setZone_resetHeld (z : Nat) (e : ZoneEntry) : (setZone z e s).resetHeld = s.resetHeld := rfl
@[simp] theorem setZone_loopInputs (z : Nat) (e : ZoneEntry) : (setZone z e s).loopInputs = s.loopInputs := rfl
@[simp] theorem setZone_sp (z : Nat) (e : ZoneEntry) : (setZone z e s).sp = s.sp := rfl
@[simp] theorem setZone_zdu (z : Nat) (e : ZoneEntry) :
    (setZone z e s).zdu = { s.zdu with zones := s.zdu.zones.setD z e } := rfl
@[simp] theorem setZone_ach (z : Nat) (e : ZoneEntry) : (setZone z e s).ach = s.ach := rfl
@[simp] theorem setZone_lsq (z : Nat) (e : ZoneEntry) : (setZone z e s).lsq = s.lsq := rfl
@[simp] theorem setZone_gsc (z : Nat) (e : ZoneEntry) : (setZone z e s).gsc = s.gsc := rfl
@[simp] theorem setZone_cwu (z : Nat) (e : ZoneEntry) : (setZone z e s).cwu = s.cwu := rfl

/-! ### setAct -/

@[simp] theorem setAct_pending (a : Fin Config.actuators) (r : Actuator) : (setAct a r s).pending = s.pending := rfl
@[simp] theorem setAct_transit (a : Fin Config.actuators) (r : Actuator) : (setAct a r s).transit = s.transit := rfl
@[simp] theorem setAct_sent (a : Fin Config.actuators) (r : Actuator) : (setAct a r s).sent = s.sent := rfl
@[simp] theorem setAct_resetHeld (a : Fin Config.actuators) (r : Actuator) :
    (setAct a r s).resetHeld = s.resetHeld := rfl
@[simp] theorem setAct_loopInputs (a : Fin Config.actuators) (r : Actuator) :
    (setAct a r s).loopInputs = s.loopInputs := rfl
@[simp] theorem setAct_sp (a : Fin Config.actuators) (r : Actuator) : (setAct a r s).sp = s.sp := rfl
@[simp] theorem setAct_zdu (a : Fin Config.actuators) (r : Actuator) : (setAct a r s).zdu = s.zdu := rfl
@[simp] theorem setAct_ach (a : Fin Config.actuators) (r : Actuator) :
    (setAct a r s).ach = { s.ach with acts := s.ach.acts.set a r } := rfl
@[simp] theorem setAct_lsq (a : Fin Config.actuators) (r : Actuator) : (setAct a r s).lsq = s.lsq := rfl
@[simp] theorem setAct_gsc (a : Fin Config.actuators) (r : Actuator) : (setAct a r s).gsc = s.gsc := rfl
@[simp] theorem setAct_cwu (a : Fin Config.actuators) (r : Actuator) : (setAct a r s).cwu = s.cwu := rfl

/-! ### setSeq -/

@[simp] theorem setSeq_pending (q : SeqState) : (setSeq q s).pending = s.pending := rfl
@[simp] theorem setSeq_transit (q : SeqState) : (setSeq q s).transit = s.transit := rfl
@[simp] theorem setSeq_sent (q : SeqState) : (setSeq q s).sent = s.sent := rfl
@[simp] theorem setSeq_resetHeld (q : SeqState) : (setSeq q s).resetHeld = s.resetHeld := rfl
@[simp] theorem setSeq_loopInputs (q : SeqState) : (setSeq q s).loopInputs = s.loopInputs := rfl
@[simp] theorem setSeq_sp (q : SeqState) : (setSeq q s).sp = s.sp := rfl
@[simp] theorem setSeq_zdu (q : SeqState) : (setSeq q s).zdu = s.zdu := rfl
@[simp] theorem setSeq_ach (q : SeqState) : (setSeq q s).ach = s.ach := rfl
@[simp] theorem setSeq_lsq (q : SeqState) : (setSeq q s).lsq = { s.lsq with seq := q } := rfl
@[simp] theorem setSeq_gsc (q : SeqState) : (setSeq q s).gsc = s.gsc := rfl
@[simp] theorem setSeq_cwu (q : SeqState) : (setSeq q s).cwu = s.cwu := rfl

/-! ### setCause -/

@[simp] theorem setCause_pending (c : HaltCause) : (setCause c s).pending = s.pending := rfl
@[simp] theorem setCause_transit (c : HaltCause) : (setCause c s).transit = s.transit := rfl
@[simp] theorem setCause_sent (c : HaltCause) : (setCause c s).sent = s.sent := rfl
@[simp] theorem setCause_resetHeld (c : HaltCause) : (setCause c s).resetHeld = s.resetHeld := rfl
@[simp] theorem setCause_loopInputs (c : HaltCause) : (setCause c s).loopInputs = s.loopInputs := rfl
@[simp] theorem setCause_sp (c : HaltCause) : (setCause c s).sp = s.sp := rfl
@[simp] theorem setCause_zdu (c : HaltCause) : (setCause c s).zdu = s.zdu := rfl
@[simp] theorem setCause_ach (c : HaltCause) : (setCause c s).ach = s.ach := rfl
@[simp] theorem setCause_lsq (c : HaltCause) : (setCause c s).lsq = { s.lsq with haltCause := c } := rfl
@[simp] theorem setCause_gsc (c : HaltCause) : (setCause c s).gsc = s.gsc := rfl
@[simp] theorem setCause_cwu (c : HaltCause) : (setCause c s).cwu = s.cwu := rfl

/-! ### emptyAwaited -/

@[simp] theorem emptyAwaited_pending : (emptyAwaited s).pending = s.pending := rfl
@[simp] theorem emptyAwaited_transit : (emptyAwaited s).transit = s.transit := rfl
@[simp] theorem emptyAwaited_sent : (emptyAwaited s).sent = s.sent := rfl
@[simp] theorem emptyAwaited_resetHeld : (emptyAwaited s).resetHeld = s.resetHeld := rfl
@[simp] theorem emptyAwaited_loopInputs : (emptyAwaited s).loopInputs = s.loopInputs := rfl
@[simp] theorem emptyAwaited_sp : (emptyAwaited s).sp = s.sp := rfl
@[simp] theorem emptyAwaited_zdu : (emptyAwaited s).zdu = s.zdu := rfl
@[simp] theorem emptyAwaited_ach : (emptyAwaited s).ach = s.ach := rfl
@[simp] theorem emptyAwaited_lsq :
    (emptyAwaited s).lsq = { s.lsq with awaited := s.lsq.awaited.map fun _ => none } := rfl
@[simp] theorem emptyAwaited_gsc : (emptyAwaited s).gsc = s.gsc := rfl
@[simp] theorem emptyAwaited_cwu : (emptyAwaited s).cwu = s.cwu := rfl

/-! ### setGauge -/

@[simp] theorem setGauge_pending (i : Fin Config.gauges) (g : Gauge) : (setGauge i g s).pending = s.pending := rfl
@[simp] theorem setGauge_transit (i : Fin Config.gauges) (g : Gauge) : (setGauge i g s).transit = s.transit := rfl
@[simp] theorem setGauge_sent (i : Fin Config.gauges) (g : Gauge) : (setGauge i g s).sent = s.sent := rfl
@[simp] theorem setGauge_resetHeld (i : Fin Config.gauges) (g : Gauge) :
    (setGauge i g s).resetHeld = s.resetHeld := rfl
@[simp] theorem setGauge_loopInputs (i : Fin Config.gauges) (g : Gauge) :
    (setGauge i g s).loopInputs = s.loopInputs := rfl
@[simp] theorem setGauge_sp (i : Fin Config.gauges) (g : Gauge) : (setGauge i g s).sp = s.sp := rfl
@[simp] theorem setGauge_zdu (i : Fin Config.gauges) (g : Gauge) : (setGauge i g s).zdu = s.zdu := rfl
@[simp] theorem setGauge_ach (i : Fin Config.gauges) (g : Gauge) : (setGauge i g s).ach = s.ach := rfl
@[simp] theorem setGauge_lsq (i : Fin Config.gauges) (g : Gauge) : (setGauge i g s).lsq = s.lsq := rfl
@[simp] theorem setGauge_gsc (i : Fin Config.gauges) (g : Gauge) :
    (setGauge i g s).gsc = { s.gsc with gauges := s.gsc.gauges.set i g } := rfl
@[simp] theorem setGauge_cwu (i : Fin Config.gauges) (g : Gauge) : (setGauge i g s).cwu = s.cwu := rfl

/-! ### setMap -/

@[simp] theorem setMap_pending (k : Fin Config.scanners) (n : Nat) (x : Option (Fin Config.gauges)) :
    (setMap k n x s).pending = s.pending := rfl
@[simp] theorem setMap_transit (k : Fin Config.scanners) (n : Nat) (x : Option (Fin Config.gauges)) :
    (setMap k n x s).transit = s.transit := rfl
@[simp] theorem setMap_sent (k : Fin Config.scanners) (n : Nat) (x : Option (Fin Config.gauges)) :
    (setMap k n x s).sent = s.sent := rfl
@[simp] theorem setMap_resetHeld (k : Fin Config.scanners) (n : Nat) (x : Option (Fin Config.gauges)) :
    (setMap k n x s).resetHeld = s.resetHeld := rfl
@[simp] theorem setMap_loopInputs (k : Fin Config.scanners) (n : Nat) (x : Option (Fin Config.gauges)) :
    (setMap k n x s).loopInputs = s.loopInputs := rfl
@[simp] theorem setMap_sp (k : Fin Config.scanners) (n : Nat) (x : Option (Fin Config.gauges)) :
    (setMap k n x s).sp = s.sp := rfl
@[simp] theorem setMap_zdu (k : Fin Config.scanners) (n : Nat) (x : Option (Fin Config.gauges)) :
    (setMap k n x s).zdu = s.zdu := rfl
@[simp] theorem setMap_ach (k : Fin Config.scanners) (n : Nat) (x : Option (Fin Config.gauges)) :
    (setMap k n x s).ach = s.ach := rfl
@[simp] theorem setMap_lsq (k : Fin Config.scanners) (n : Nat) (x : Option (Fin Config.gauges)) :
    (setMap k n x s).lsq = s.lsq := rfl
@[simp] theorem setMap_gsc (k : Fin Config.scanners) (n : Nat) (x : Option (Fin Config.gauges)) :
    (setMap k n x s).gsc = { s.gsc with chanMap := s.gsc.chanMap.setD (mapKey k n) x } := rfl
@[simp] theorem setMap_cwu (k : Fin Config.scanners) (n : Nat) (x : Option (Fin Config.gauges)) :
    (setMap k n x s).cwu = s.cwu := rfl

/-! ### setScannerLink -/

@[simp] theorem setScannerLink_pending (k : Fin Config.scanners) (l : ScannerLink) :
    (setScannerLink k l s).pending = s.pending := rfl
@[simp] theorem setScannerLink_transit (k : Fin Config.scanners) (l : ScannerLink) :
    (setScannerLink k l s).transit = s.transit := rfl
@[simp] theorem setScannerLink_sent (k : Fin Config.scanners) (l : ScannerLink) :
    (setScannerLink k l s).sent = s.sent := rfl
@[simp] theorem setScannerLink_resetHeld (k : Fin Config.scanners) (l : ScannerLink) :
    (setScannerLink k l s).resetHeld = s.resetHeld := rfl
@[simp] theorem setScannerLink_loopInputs (k : Fin Config.scanners) (l : ScannerLink) :
    (setScannerLink k l s).loopInputs = s.loopInputs := rfl
@[simp] theorem setScannerLink_sp (k : Fin Config.scanners) (l : ScannerLink) :
    (setScannerLink k l s).sp = s.sp := rfl
@[simp] theorem setScannerLink_zdu (k : Fin Config.scanners) (l : ScannerLink) :
    (setScannerLink k l s).zdu = s.zdu := rfl
@[simp] theorem setScannerLink_ach (k : Fin Config.scanners) (l : ScannerLink) :
    (setScannerLink k l s).ach = s.ach := rfl
@[simp] theorem setScannerLink_lsq (k : Fin Config.scanners) (l : ScannerLink) :
    (setScannerLink k l s).lsq = s.lsq := rfl
@[simp] theorem setScannerLink_gsc (k : Fin Config.scanners) (l : ScannerLink) :
    (setScannerLink k l s).gsc = { s.gsc with links := s.gsc.links.set k l } := rfl
@[simp] theorem setScannerLink_cwu (k : Fin Config.scanners) (l : ScannerLink) :
    (setScannerLink k l s).cwu = s.cwu := rfl

/-! ### setCrack -/

@[simp] theorem setCrack_pending (i : Fin Config.cracks) (r : Crack) : (setCrack i r s).pending = s.pending := rfl
@[simp] theorem setCrack_transit (i : Fin Config.cracks) (r : Crack) : (setCrack i r s).transit = s.transit := rfl
@[simp] theorem setCrack_sent (i : Fin Config.cracks) (r : Crack) : (setCrack i r s).sent = s.sent := rfl
@[simp] theorem setCrack_resetHeld (i : Fin Config.cracks) (r : Crack) :
    (setCrack i r s).resetHeld = s.resetHeld := rfl
@[simp] theorem setCrack_loopInputs (i : Fin Config.cracks) (r : Crack) :
    (setCrack i r s).loopInputs = s.loopInputs := rfl
@[simp] theorem setCrack_sp (i : Fin Config.cracks) (r : Crack) : (setCrack i r s).sp = s.sp := rfl
@[simp] theorem setCrack_zdu (i : Fin Config.cracks) (r : Crack) : (setCrack i r s).zdu = s.zdu := rfl
@[simp] theorem setCrack_ach (i : Fin Config.cracks) (r : Crack) : (setCrack i r s).ach = s.ach := rfl
@[simp] theorem setCrack_lsq (i : Fin Config.cracks) (r : Crack) : (setCrack i r s).lsq = s.lsq := rfl
@[simp] theorem setCrack_gsc (i : Fin Config.cracks) (r : Crack) : (setCrack i r s).gsc = s.gsc := rfl
@[simp] theorem setCrack_cwu (i : Fin Config.cracks) (r : Crack) :
    (setCrack i r s).cwu = { s.cwu with cracks := s.cwu.cracks.set i r } := rfl

/-! ### setLoop -/

@[simp] theorem setLoop_pending (l : Fin Config.loops) (r : Loop) : (setLoop l r s).pending = s.pending := rfl
@[simp] theorem setLoop_transit (l : Fin Config.loops) (r : Loop) : (setLoop l r s).transit = s.transit := rfl
@[simp] theorem setLoop_sent (l : Fin Config.loops) (r : Loop) : (setLoop l r s).sent = s.sent := rfl
@[simp] theorem setLoop_resetHeld (l : Fin Config.loops) (r : Loop) : (setLoop l r s).resetHeld = s.resetHeld := rfl
@[simp] theorem setLoop_loopInputs (l : Fin Config.loops) (r : Loop) :
    (setLoop l r s).loopInputs = s.loopInputs := rfl
@[simp] theorem setLoop_sp (l : Fin Config.loops) (r : Loop) : (setLoop l r s).sp = s.sp := rfl
@[simp] theorem setLoop_zdu (l : Fin Config.loops) (r : Loop) : (setLoop l r s).zdu = s.zdu := rfl
@[simp] theorem setLoop_ach (l : Fin Config.loops) (r : Loop) : (setLoop l r s).ach = s.ach := rfl
@[simp] theorem setLoop_lsq (l : Fin Config.loops) (r : Loop) : (setLoop l r s).lsq = s.lsq := rfl
@[simp] theorem setLoop_gsc (l : Fin Config.loops) (r : Loop) : (setLoop l r s).gsc = s.gsc := rfl
@[simp] theorem setLoop_cwu (l : Fin Config.loops) (r : Loop) :
    (setLoop l r s).cwu = { s.cwu with loops := s.cwu.loops.set l r } := rfl

/-! ### setSensor -/

@[simp] theorem setSensor_pending (c : Fin Config.sensors) (r : Sensor) : (setSensor c r s).pending = s.pending := rfl
@[simp] theorem setSensor_transit (c : Fin Config.sensors) (r : Sensor) : (setSensor c r s).transit = s.transit := rfl
@[simp] theorem setSensor_sent (c : Fin Config.sensors) (r : Sensor) : (setSensor c r s).sent = s.sent := rfl
@[simp] theorem setSensor_resetHeld (c : Fin Config.sensors) (r : Sensor) :
    (setSensor c r s).resetHeld = s.resetHeld := rfl
@[simp] theorem setSensor_loopInputs (c : Fin Config.sensors) (r : Sensor) :
    (setSensor c r s).loopInputs = s.loopInputs := rfl
@[simp] theorem setSensor_sp (c : Fin Config.sensors) (r : Sensor) : (setSensor c r s).sp = s.sp := rfl
@[simp] theorem setSensor_zdu (c : Fin Config.sensors) (r : Sensor) : (setSensor c r s).zdu = s.zdu := rfl
@[simp] theorem setSensor_ach (c : Fin Config.sensors) (r : Sensor) : (setSensor c r s).ach = s.ach := rfl
@[simp] theorem setSensor_lsq (c : Fin Config.sensors) (r : Sensor) : (setSensor c r s).lsq = s.lsq := rfl
@[simp] theorem setSensor_gsc (c : Fin Config.sensors) (r : Sensor) : (setSensor c r s).gsc = s.gsc := rfl
@[simp] theorem setSensor_cwu (c : Fin Config.sensors) (r : Sensor) :
    (setSensor c r s).cwu = { s.cwu with sensors := s.cwu.sensors.set c r } := rfl

/-! ### setHits -/

@[simp] theorem setHits_pending (hs : List Hit) : (setHits hs s).pending = s.pending := rfl
@[simp] theorem setHits_transit (hs : List Hit) : (setHits hs s).transit = s.transit := rfl
@[simp] theorem setHits_sent (hs : List Hit) : (setHits hs s).sent = s.sent := rfl
@[simp] theorem setHits_resetHeld (hs : List Hit) : (setHits hs s).resetHeld = s.resetHeld := rfl
@[simp] theorem setHits_loopInputs (hs : List Hit) : (setHits hs s).loopInputs = s.loopInputs := rfl
@[simp] theorem setHits_sp (hs : List Hit) : (setHits hs s).sp = s.sp := rfl
@[simp] theorem setHits_zdu (hs : List Hit) : (setHits hs s).zdu = s.zdu := rfl
@[simp] theorem setHits_ach (hs : List Hit) : (setHits hs s).ach = s.ach := rfl
@[simp] theorem setHits_lsq (hs : List Hit) : (setHits hs s).lsq = s.lsq := rfl
@[simp] theorem setHits_gsc (hs : List Hit) : (setHits hs s).gsc = s.gsc := rfl
@[simp] theorem setHits_cwu (hs : List Hit) : (setHits hs s).cwu = { s.cwu with hits := hs } := rfl

/-! ### clearTallies -/

@[simp] theorem clearTallies_pending : (clearTallies s).pending = s.pending := rfl
@[simp] theorem clearTallies_transit : (clearTallies s).transit = s.transit := rfl
@[simp] theorem clearTallies_sent : (clearTallies s).sent = s.sent := rfl
@[simp] theorem clearTallies_resetHeld : (clearTallies s).resetHeld = s.resetHeld := rfl
@[simp] theorem clearTallies_loopInputs : (clearTallies s).loopInputs = s.loopInputs := rfl
@[simp] theorem clearTallies_sp : (clearTallies s).sp = s.sp := rfl
@[simp] theorem clearTallies_zdu : (clearTallies s).zdu = s.zdu := rfl
@[simp] theorem clearTallies_ach : (clearTallies s).ach = s.ach := rfl
@[simp] theorem clearTallies_lsq : (clearTallies s).lsq = s.lsq := rfl
@[simp] theorem clearTallies_gsc : (clearTallies s).gsc = s.gsc := rfl
@[simp] theorem clearTallies_cwu : (clearTallies s).cwu = { s.cwu with tallies := Table.fill _ {} } := rfl

/-! ### setTheWindow -/

@[simp] theorem setTheWindow_pending (w : Window) : (setTheWindow w s).pending = s.pending := rfl
@[simp] theorem setTheWindow_transit (w : Window) : (setTheWindow w s).transit = s.transit := rfl
@[simp] theorem setTheWindow_sent (w : Window) : (setTheWindow w s).sent = s.sent := rfl
@[simp] theorem setTheWindow_resetHeld (w : Window) : (setTheWindow w s).resetHeld = s.resetHeld := rfl
@[simp] theorem setTheWindow_loopInputs (w : Window) : (setTheWindow w s).loopInputs = s.loopInputs := rfl
@[simp] theorem setTheWindow_sp (w : Window) : (setTheWindow w s).sp = { s.sp with window := some w } := rfl
@[simp] theorem setTheWindow_zdu (w : Window) : (setTheWindow w s).zdu = s.zdu := rfl
@[simp] theorem setTheWindow_ach (w : Window) : (setTheWindow w s).ach = s.ach := rfl
@[simp] theorem setTheWindow_lsq (w : Window) : (setTheWindow w s).lsq = s.lsq := rfl
@[simp] theorem setTheWindow_gsc (w : Window) : (setTheWindow w s).gsc = s.gsc := rfl
@[simp] theorem setTheWindow_cwu (w : Window) : (setTheWindow w s).cwu = s.cwu := rfl

/-! ### setLoopInput -/

@[simp] theorem setLoopInput_pending (l : Fin Config.loops) (b : Bool) :
    (setLoopInput l b s).pending = s.pending := rfl
@[simp] theorem setLoopInput_transit (l : Fin Config.loops) (b : Bool) :
    (setLoopInput l b s).transit = s.transit := rfl
@[simp] theorem setLoopInput_sent (l : Fin Config.loops) (b : Bool) : (setLoopInput l b s).sent = s.sent := rfl
@[simp] theorem setLoopInput_resetHeld (l : Fin Config.loops) (b : Bool) :
    (setLoopInput l b s).resetHeld = s.resetHeld := rfl
@[simp] theorem setLoopInput_loopInputs (l : Fin Config.loops) (b : Bool) :
    (setLoopInput l b s).loopInputs = s.loopInputs.set l b := rfl
@[simp] theorem setLoopInput_sp (l : Fin Config.loops) (b : Bool) : (setLoopInput l b s).sp = s.sp := rfl
@[simp] theorem setLoopInput_zdu (l : Fin Config.loops) (b : Bool) : (setLoopInput l b s).zdu = s.zdu := rfl
@[simp] theorem setLoopInput_ach (l : Fin Config.loops) (b : Bool) : (setLoopInput l b s).ach = s.ach := rfl
@[simp] theorem setLoopInput_lsq (l : Fin Config.loops) (b : Bool) : (setLoopInput l b s).lsq = s.lsq := rfl
@[simp] theorem setLoopInput_gsc (l : Fin Config.loops) (b : Bool) : (setLoopInput l b s).gsc = s.gsc := rfl
@[simp] theorem setLoopInput_cwu (l : Fin Config.loops) (b : Bool) : (setLoopInput l b s).cwu = s.cwu := rfl

end Sys2Proof.Machine
end

