-- ==== Sys2Proof/Laws/Table.lean ====
section
/-! SUPPORT. Laws/Table.lean: what reading a table after a write gives. -/
namespace Sys2Proof.Table

variable {α β : Type} {n : Nat}

/-- Two tables with the same records are equal. -/
theorem ext_rows {t u : Table α n} (h : t.rows = u.rows) : t = u := by cases t; cases u; cases h; rfl

/-- Two tables that read alike at every record are equal. -/
theorem ext_get {t u : Table α n} (h : ∀ i, t.get i = u.get i) : t = u := by
  refine ext_rows (List.ext_getElem (by rw [t.size, u.size]) fun k hk _ => ?_)
  exact h ⟨k, by rw [← t.size]; exact hk⟩

/-- A filled table reads its value everywhere. -/
@[simp] theorem get_fill (x : α) (i : Fin n) : (fill n x).get i = x := by simp [fill, get]

/-- The record written reads as written. -/
@[simp] theorem get_set_same (t : Table α n) (i : Fin n) (x : α) : (t.set i x).get i = x := by simp [set, get]

/-- Every other record reads as before. -/
theorem get_set_other (t : Table α n) {i j : Fin n} (x : α) (h : j ≠ i) : (t.set i x).get j = t.get j := by
  have : i.val ≠ j.val := fun e => h (Fin.ext e.symm)
  simp [set, get, this]

/-- Reading after writing one record. -/
theorem get_set (t : Table α n) (i j : Fin n) (x : α) : (t.set i x).get j = if j = i then x else t.get j := by
  by_cases h : j = i
  · subst h; simp
  · simp [h, get_set_other t x h]

/-- A record written with what it holds changes nothing. -/
@[simp] theorem set_get (t : Table α n) (i : Fin n) : t.set i (t.get i) = t :=
  ext_rows (by simp [set, get])

/-- A mapped table reads the image of each record. -/
@[simp] theorem get_map (f : α → β) (t : Table α n) (i : Fin n) : (t.map f).get i = f (t.get i) := by
  simp [map, get]

/-- A record number below the size names that record. -/
theorem index?_lt {i : Nat} (h : i < n) : index? n i = some ⟨i, h⟩ := by simp [index?, h]

/-- A number at or above the size names none. -/
theorem index?_ge {i : Nat} (h : n ≤ i) : index? n i = none := by simp [index?, Nat.not_lt.mpr h]

/-- A record's own number names it. -/
@[simp] theorem index?_val (i : Fin n) : index? n i.val = some i := index?_lt i.isLt

/-- Reading by a record's own number. -/
@[simp] theorem getD_val (t : Table α n) (i : Fin n) (d : α) : t.getD i.val d = t.get i := by simp [getD]

/-- Writing by a record's own number. -/
@[simp] theorem setD_val (t : Table α n) (i : Fin n) (x : α) : t.setD i.val x = t.set i x := by simp [setD]

/-- Reading by number after a write by number. -/
theorem getD_setD (t : Table α n) (i j : Nat) (x d : α) :
    (t.setD i x).getD j d = if j = i ∧ i < n then x else t.getD j d := by
  by_cases hi : i < n
  · by_cases hj : j < n
    · simp [getD, setD, index?_lt hi, index?_lt hj, get_set, hi]
    · have : ¬(j = i) := fun e => hj (e ▸ hi)
      simp [getD, index?_ge (Nat.not_lt.mp hj), this]
  · simp [setD, index?_ge (Nat.not_lt.mp hi), hi]

end Sys2Proof.Table
end

