-- ==== Sys2Proof/Laws/Ach.lean ====
section
/-! SUPPORT. Laws/Ach.lean: what the Actuator Channels' fault entry and the hold it owes do, whole. -/
namespace Sys2Proof.Machine

variable {a : Fin Config.actuators} {s : State}

/-- An actuator record replaced, as read. -/
@[simp] theorem act_setAct (r : Actuator) : act a (setAct a r s) = r := by simp [act]

/-- Everything fault entry on a LIVE link does: the HOLD is sent, and none is owed (R36). -/
theorem enterFault_live (c : ActCause) (h : (act a s).link = .live) :
    enterFault a c s = { s with
      ach := { s.ach with acts := s.ach.acts.set a { act a s with
        state := .fault c, settleTimer := none, settledMark := false, holdOwed := false
        lastTag := (act a s).lastTag + 1 } }
      sent := s.sent ++ [⟨.drive a, sealUnit [0x02, (act a s).lastTag + 1]⟩]
      transit := s.transit ++ [.actFault a c, .attentionEventReport .actFault] } := by
  have ht : ∀ (t : Table Actuator Config.actuators) (x y : Actuator), (t.set a x).set a y = t.set a y := fun t x y =>
    Table.ext_get fun i => by simp only [Table.get_set]; split <;> rfl
  simp [enterFault, h, sendHold, faulted, ht, nextTag, holdUnit, transmit, raise, send]

/-- Everything fault entry on a link not LIVE does: nothing is sent, and the HOLD is owed (R36, R37). -/
theorem enterFault_notLive (c : ActCause) (h : (act a s).link ≠ .live) :
    enterFault a c s = { s with
      ach := { s.ach with acts := s.ach.acts.set a { act a s with
        state := .fault c, settleTimer := none, settledMark := false, holdOwed := true } }
      transit := s.transit ++ [.actFault a c, .attentionEventReport .actFault] } := by
  simp [enterFault, h, bne_iff_ne.2 h, faulted, raise, send]

/-- Everything owing the hold does. -/
theorem oweHold_eq : oweHold a s = { s with
    ach := { s.ach with acts := s.ach.acts.set a { act a s with holdOwed := true } } } := rfl

end Sys2Proof.Machine
end

