-- ==== Sys2Proof/Laws/Port.lean ====
section
/-! SUPPORT. Laws/Port.lean: what the shared forms of a command do: a host request, a message arrival, a link arrival,
and what they keep. -/
namespace Sys2Proof.Machine

variable {s : State}

/-- A right outer form gives the parameters (R167). -/
theorem frameParams_right {params : List Byte} (h : params.length ≤ 64) :
    frameParams (byteOf params.length :: params) = some params := by
  have : (byteOf params.length).toNat = params.length := by
    simp only [byteOf, BitVec.toNat_ofNat]; omega
  simp [frameParams, this, h]

/-- The frame of a request with no parameters. -/
@[simp] theorem frameParams_none : frameParams [0] = some [] := by decide

/-- The frame of a request with one parameter byte. -/
@[simp] theorem frameParams_one (b : Byte) : frameParams [1, b] = some [b] := by simp [frameParams]

/-- The frame of a request with two parameter bytes. -/
@[simp] theorem frameParams_two (b c : Byte) : frameParams [2, b, c] = some [b, c] := by simp [frameParams]

/-- Outside reset an arrival has its effect. -/
theorem unlessHeld_free (f : State → State) (h : s.resetHeld = false) : unlessHeld f s = f s := by
  simp [unlessHeld, h]

/-- While the reset line is held an arrival changes nothing. -/
theorem unlessHeld_held (f : State → State) (h : s.resetHeld = true) : unlessHeld f s = s := by
  simp [unlessHeld, h]

/-- A message arrives outside reset. -/
theorem onArrival_free (m : Instr) (f : State → State) (h : s.resetHeld = false) :
    onArrival m f s = .next (f (arrive m s)) := by simp [onArrival, unlessHeld, h]

/-- A message reaches nobody while the reset line is held. -/
theorem onArrival_held (m : Instr) (f : State → State) (h : s.resetHeld = true) : onArrival m f s = .next s := by
  simp [onArrival, unlessHeld, h]

/-- A request frame that finds the slot WORKING is discarded (R170). -/
theorem portFrame_working (code : Byte) (k : Bool) (take : List Byte → State → Taken) (tail : List Byte)
    (h : slotWorking s = true) : portFrame code k take tail s = discardRequest s := by simp [portFrame, h]

/-- A request frame of a wrong outer form is refused with FORMAT and ends AMEND (R167, R191). -/
theorem portFrame_malformed (code : Byte) (k : Bool) (take : List Byte → State → Taken) {tail : List Byte}
    (h : slotWorking s = false) (hf : frameParams tail = none) :
    portFrame code k take tail s =
      postAnswer code { code := .refused, reason := .format } (endAmend (occupySlot code s)) := by
  simp [portFrame, h, hf, postTaken, refuse]

/-- A request frame of a right outer form goes to its owner (R168). -/
theorem portFrame_right (code : Byte) (k : Bool) (take : List Byte → State → Taken) {tail params : List Byte}
    (h : slotWorking s = false) (hf : frameParams tail = some params) :
    portFrame code k take tail s =
      postTaken code (take params (if k then occupySlot code s else endAmend (occupySlot code s))) := by
  simp [portFrame, h, hf]

/-- A host request the part takes (R167 to R169). -/
theorem hostRequest_taken (code : Byte) (take : List Byte → State → Taken) {tail params : List Byte}
    (hr : s.resetHeld = false) (hw : slotWorking s = false) (hf : frameParams tail = some params) :
    hostRequest code take tail s = .next (postTaken code (take params (endAmend (occupySlot code s)))) := by
  simp [hostRequest, unlessHeld, hr, portFrame_right code false take hw hf]

/-- A host request that keeps AMEND, taken (R191). -/
theorem hostRequestKeepingAmend_taken (code : Byte) (take : List Byte → State → Taken) {tail params : List Byte}
    (hr : s.resetHeld = false) (hw : slotWorking s = false) (hf : frameParams tail = some params) :
    hostRequestKeepingAmend code take tail s = .next (postTaken code (take params (occupySlot code s))) := by
  simp [hostRequestKeepingAmend, unlessHeld, hr, portFrame_right code true take hw hf]

/-- A host request while the reset line is held (R181). -/
theorem hostRequest_held (code : Byte) (take : List Byte → State → Taken) (tail : List Byte)
    (hr : s.resetHeld = true) : hostRequest code take tail s = .next s := by simp [hostRequest, unlessHeld, hr]

/-- The same for a request that keeps AMEND (R181). -/
theorem hostRequestKeepingAmend_held (code : Byte) (take : List Byte → State → Taken) (tail : List Byte)
    (hr : s.resetHeld = true) : hostRequestKeepingAmend code take tail s = .next s := by
  simp [hostRequestKeepingAmend, unlessHeld, hr]

/-- An answer that is there sets out. -/
@[simp] theorem postTaken_some (code : Byte) (t : State) (r : Reply) :
    postTaken code (t, some r) = postAnswer code r t := rfl

/-- No answer yet. -/
@[simp] theorem postTaken_none (code : Byte) (t : State) : postTaken code (t, none) = t := rfl

/-- Several owners asked, no answer yet. -/
@[simp] theorem postTaken_asking (code : Byte) (g : Gather) (t : State) : postTaken code (asking g t) = askOwners g t := rfl

/-- DONE. -/
@[simp] theorem postTaken_done (code : Byte) (t : State) (d : List Byte) :
    postTaken code (done t d) = postAnswer code { code := .done, data := d } t := rfl

/-- STARTED. -/
@[simp] theorem postTaken_started (code : Byte) (t : State) :
    postTaken code (started t) = postAnswer code { code := .started } t := rfl

/-- REFUSED. -/
@[simp] theorem postTaken_refuse (code : Byte) (t : State) (r : Reason) (d : List Byte) :
    postTaken code (refuse t r d) = postAnswer code { code := .refused, reason := r, data := d } t := rfl

/-- Where nothing picked is in transit nothing is taken. -/
theorem takeSent_none {p : Instr → Bool} {take : Instr → State → State} (h : ∀ m ∈ s.transit, p m = false) :
    takeSent p take s = s := by
  unfold takeSent
  rw [List.filter_eq_nil_iff.2 fun m hm => by simp [h m hm]]
  rfl

/-- The oldest message picked is taken first, then the rest, where taking one sends and removes none of them. -/
theorem takeSent_first {p : Instr → Bool} {take : Instr → State → State}
    (hk : ∀ m t, (take m t).transit.filter p = t.transit.filter p) {pre post : List Instr} {m : Instr}
    (ht : s.transit = pre ++ m :: post) (hp : ∀ x ∈ pre, p x = false) (hm : p m = true) :
    takeSent p take s = takeSent p take (take m (arrive m s)) := by
  have hn : m ∉ pre := fun h => by simp [hp m h] at hm
  have h0 : pre.filter p = [] := List.filter_eq_nil_iff.2 fun x hx => by simp [hp x hx]
  have hf : s.transit.filter p = m :: post.filter p := by simp [ht, h0, hm]
  have hg : (take m (arrive m s)).transit.filter p = post.filter p := by
    rw [hk]
    simp [arrive, ht, List.erase_append_right _ hn, h0]
  unfold takeSent
  rw [hf, hg]
  rfl

/-- Whatever holds of a state and is kept by each message taken is kept by all. -/
theorem takeSent_keeps {p : Instr → Bool} {take : Instr → State → State} {P : State → Prop}
    (hk : ∀ m t, p m = true → P t → P (take m (arrive m t))) (h : P s) : P (takeSent p take s) := by
  have : ∀ (ms : List Instr) (t : State), (∀ m ∈ ms, p m = true) → P t →
      P (ms.foldl (fun t m => take m (arrive m t)) t) := by
    intro ms
    induction ms with
    | nil => exact fun t _ h => h
    | cons m ms ih =>
      intro t hm h
      exact ih _ (fun x hx => hm x (List.mem_cons_of_mem _ hx)) (hk m t (hm m List.mem_cons_self) h)
  exact this _ _ (fun m hm => (List.mem_filter.1 hm).2) h

/-- The effect of a report changes SP alone. -/
theorem takeSpReport_sp (m : Instr) (t : State) : takeSpReport m t = { t with sp := (takeSpReport m t).sp } := by
  unfold takeSpReport; split <;> rfl

/-- The reports taken before an owner's answer to STATUS change SP and what is in transit, nothing else. -/
theorem takeReportsOf_event (b : Block) (s : State) :
    takeReportsOf b s = { s with sp := (takeReportsOf b s).sp, transit := (takeReportsOf b s).transit } := by
  have h : ∃ p ms, takeReportsOf b s = { s with sp := p, transit := ms } :=
    takeSent_keeps (P := fun t => ∃ p ms, t = { s with sp := p, transit := ms })
      (fun m _ _ ⟨_, _, h⟩ => by subst h; exact ⟨_, _, takeSpReport_sp m _⟩) ⟨_, _, rfl⟩
  obtain ⟨p, ms, h⟩ := h
  rw [h]

/-- The oldest report of the block is taken first, then the rest. -/
theorem takeReportsOf_first {b : Block} {pre post : List Instr} {m : Instr} (ht : s.transit = pre ++ m :: post)
    (hp : ∀ x ∈ pre, isReportOf b x = false) (hm : isReportOf b m = true) :
    takeReportsOf b s = takeReportsOf b (takeSpReport m (arrive m s)) :=
  takeSent_first (fun m t => by rw [takeSpReport_sp]) ht hp hm

/-- A condition's edge is one message, or none. -/
theorem reportEdge_eq (c : CondClass) (was now : Bool) (t : State) :
    reportEdge c was now t =
      sendAll (if was = now then [] else [.conditionEdgeReport c (if now then .entry else .exit)]) t := by
  unfold reportEdge; split <;> simp [sendAll, send]

/-- No condition edge where the condition stands as it was. -/
@[simp] theorem reportEdge_same (c : CondClass) (b : Bool) (t : State) : reportEdge c b b t = t := by
  simp [reportEdge]

end Sys2Proof.Machine
end

