-- ==== Sys2Proof/Laws/Frame.lean ====
section
/-! SUPPORT. Laws/Frame.lean: the owners' operations leave SP, the queue, the reset line and the loop inputs as they
were. Each operation has one lemma; a meaning's frame is read off from them. -/
namespace Sys2Proof.Machine

/-- What no owner but SP may change: the queue, the reset line, the loop inputs, SP. -/
def portOf (s : State) : List Instr × Bool × Table Bool Config.loops × Sp :=
  (s.pending, s.resetHeld, s.loopInputs, s.sp)

variable {s : State}

/-- A fold of operations that each keep it keeps it. -/
theorem portOf_foldl {α : Type} (f : State → α → State) (h : ∀ t x, portOf (f t x) = portOf t) (xs : List α) (s : State) :
    portOf (xs.foldl f s) = portOf s := by
  induction xs generalizing s with
  | nil => rfl
  | cons x xs ih => rw [List.foldl_cons, ih, h]


@[simp] theorem portOf_onZdu (f : Zdu → Zdu) : portOf (onZdu f s) = portOf s := rfl
@[simp] theorem portOf_onAch (f : Ach → Ach) : portOf (onAch f s) = portOf s := rfl
@[simp] theorem portOf_onLsq (f : Lsq → Lsq) : portOf (onLsq f s) = portOf s := rfl
@[simp] theorem portOf_onGsc (f : Gsc → Gsc) : portOf (onGsc f s) = portOf s := rfl
@[simp] theorem portOf_onCwu (f : Cwu → Cwu) : portOf (onCwu f s) = portOf s := rfl
@[simp] theorem portOf_send (m : Instr) : portOf (send m s) = portOf s := rfl
@[simp] theorem portOf_sendAll (ms : List Instr) : portOf (sendAll ms s) = portOf s := rfl
@[simp] theorem portOf_arrive (m : Instr) : portOf (arrive m s) = portOf s := rfl
@[simp] theorem portOf_raise (c : EventClass) : portOf (raise c s) = portOf s := rfl
@[simp] theorem portOf_transmit (l : Link) (u : List Byte) : portOf (transmit l u s) = portOf s := rfl
@[simp] theorem portOf_setZone (z : Nat) (e : ZoneEntry) : portOf (setZone z e s) = portOf s := rfl
@[simp] theorem portOf_setAct (a : Fin Config.actuators) (r : Actuator) : portOf (setAct a r s) = portOf s := rfl
@[simp] theorem portOf_setSeq (q : SeqState) : portOf (setSeq q s) = portOf s := rfl
@[simp] theorem portOf_setCause (c : HaltCause) : portOf (setCause c s) = portOf s := rfl
@[simp] theorem portOf_emptyAwaited : portOf (emptyAwaited s) = portOf s := rfl
@[simp] theorem portOf_setGauge (i : Fin Config.gauges) (g : Gauge) : portOf (setGauge i g s) = portOf s := rfl
@[simp] theorem portOf_setMap (k : Fin Config.scanners) (n : Nat) (x : Option (Fin Config.gauges)) : portOf (setMap k n x s) = portOf s := rfl
@[simp] theorem portOf_setScannerLink (k : Fin Config.scanners) (l : ScannerLink) : portOf (setScannerLink k l s) = portOf s := rfl
@[simp] theorem portOf_setCrack (i : Fin Config.cracks) (r : Crack) : portOf (setCrack i r s) = portOf s := rfl
@[simp] theorem portOf_setLoop (l : Fin Config.loops) (r : Loop) : portOf (setLoop l r s) = portOf s := rfl
@[simp] theorem portOf_setSensor (c : Fin Config.sensors) (r : Sensor) : portOf (setSensor c r s) = portOf s := rfl
@[simp] theorem portOf_setHits (hs : List Hit) : portOf (setHits hs s) = portOf s := rfl
@[simp] theorem portOf_clearTallies : portOf (clearTallies s) = portOf s := rfl
@[simp] theorem done_fst (d : List Byte) : (done s d).1 = s := rfl
@[simp] theorem started_fst : (started s).1 = s := rfl
@[simp] theorem refuse_fst (r : Reason) (d : List Byte) : (refuse s r d).1 = s := rfl
@[simp] theorem CrackEvent_map_state (e : CrackEvent) (f : State → State) : (e.map f).state = f e.state := rfl
@[simp] theorem crackEvent_state : (crackEvent s).state = s := rfl

@[simp] theorem portOf_reportEdge (c : CondClass) (b d : Bool) :
    portOf (reportEdge c b d s) = portOf s := by
  unfold reportEdge; split <;> rfl
@[simp] theorem portOf_storeEffective (z : Nat) :
    portOf (storeEffective z s) = portOf s := by
  rfl
@[simp] theorem portOf_updateEffective (zs : List Nat) :
    portOf (updateEffective zs s) = portOf s := by
  unfold updateEffective; dsimp only; (repeat' split) <;> simp <;> exact portOf_foldl _ (fun _ _ => by simp) _ _
@[simp] theorem portOf_compareTrip :
    portOf (compareTrip s) = portOf s := by
  unfold compareTrip; (repeat' split) <;> rfl
@[simp] theorem portOf_evalConditions :
    portOf (evalConditions s) = portOf s := by
  unfold evalConditions; split <;> simp
@[simp] theorem portOf_afterOverClaim (z : Nat) :
    portOf (afterOverClaim z s) = portOf s := by
  simp [afterOverClaim]
@[simp] theorem portOf_takeOverEnter (z : Nat) :
    portOf (takeOverEnter z s) = portOf s := by
  unfold takeOverEnter zoneClaim; dsimp only; (repeat' split) <;> simp
@[simp] theorem portOf_takeOverLeave (z : Nat) :
    portOf (takeOverLeave z s) = portOf s := by
  unfold takeOverLeave zoneClaim; dsimp only; (repeat' split) <;> simp
@[simp] theorem portOf_takeFaultEnter (z : Nat) :
    portOf (takeFaultEnter z s) = portOf s := by
  unfold takeFaultEnter zoneClaim; dsimp only; (repeat' split) <;> simp
@[simp] theorem portOf_takeFaultLeave (z : Nat) :
    portOf (takeFaultLeave z s) = portOf s := by
  unfold takeFaultLeave zoneClaim; dsimp only; (repeat' split) <;> simp
@[simp] theorem portOf_takeCrackDerate (z v n : Nat) :
    portOf (takeCrackDerate z v n s) = portOf s := by
  unfold takeCrackDerate zoneClaim; split <;> simp
@[simp] theorem portOf_takeClaim (m : Instr) :
    portOf (takeClaim m s) = portOf s := by
  unfold takeClaim; split <;> simp
@[simp] theorem portOf_takeClaims :
    portOf (takeClaims s) = portOf s := by
  exact portOf_foldl _ (fun _ _ => by simp) _ _
@[simp] theorem portOf_takeLoadMask (m : BitVec 32) :
    portOf (takeLoadMask m s) = portOf s := by
  exact portOf_foldl _ (fun _ _ => by simp) _ _
@[simp] theorem portOf_writeManual (z v : Nat) :
    portOf (writeManual z v s) = portOf s := by
  simp [writeManual]
@[simp] theorem portOf_writeOverDerate (z v : Nat) :
    portOf (writeOverDerate z v s) = portOf s := by
  simp [writeOverDerate]
@[simp] theorem portOf_writeTripCount (v : Nat) :
    portOf (writeTripCount v s) = portOf s := by
  simp [writeTripCount]
@[simp] theorem portOf_writeManualAll (v : Nat) :
    portOf (writeManualAll v s) = portOf s := by
  simp only [writeManualAll, portOf_updateEffective]
  exact portOf_foldl _ (fun _ _ => by simp) _ _
@[simp] theorem portOf_takeSetZoneDerate (ps : List Byte) :
    portOf (takeSetZoneDerate ps s).1 = portOf s := by
  unfold takeSetZoneDerate; dsimp only; (repeat' split) <;> simp
@[simp] theorem portOf_orderSweeps :
    portOf (orderSweeps s) = portOf s := by
  rfl
@[simp] theorem portOf_openRezone (bs : List Nat) :
    portOf (openRezone bs s) = portOf s := by
  rfl
@[simp] theorem portOf_takeRezone (ps : List Byte) :
    portOf (takeRezone ps s).1 = portOf s := by
  unfold takeRezone; (repeat' split) <;> simp
@[simp] theorem portOf_takeSwept :
    portOf (takeSwept s) = portOf s := by
  rfl
@[simp] theorem portOf_completeRezone :
    portOf (completeRezone s) = portOf s := by
  simp [completeRezone]
@[simp] theorem portOf_takeSweepDone (o : Owner) :
    portOf (takeSweepDone o s) = portOf s := by
  unfold takeSweepDone; (repeat' split) <;> simp
@[simp] theorem portOf_sendSet (a : Fin Config.actuators) (x : Int) (r : Nat) :
    portOf (sendSet a x r s) = portOf s := by
  rfl
@[simp] theorem portOf_sendHold (a : Fin Config.actuators) :
    portOf (sendHold a s) = portOf s := by
  rfl
@[simp] theorem portOf_sendFree (a : Fin Config.actuators) :
    portOf (sendFree a s) = portOf s := by
  rfl
@[simp] theorem portOf_oweHold (a : Fin Config.actuators) : portOf (oweHold a s) = portOf s := rfl
@[simp] theorem portOf_enterFault (a : Fin Config.actuators) (c : ActCause) :
    portOf (enterFault a c s) = portOf s := by
  unfold enterFault; split <;> rfl
@[simp] theorem portOf_takeSetAtAch (a : Fin Config.actuators) (x : Int) (r : Nat) :
    portOf (takeSetAtAch a x r s) = portOf s := by
  unfold takeSetAtAch; dsimp only; (repeat' split) <;> simp
@[simp] theorem portOf_recordAnswer (a : Fin Config.actuators) (x : Int) (t : Option Tag) :
    portOf (recordAnswer a x t s) = portOf s := by
  rfl
@[simp] theorem portOf_takeSetCommand (a : Fin Config.actuators) (x : Int) (r : Nat) :
    portOf (takeSetCommand a x r s) = portOf s := by
  simp [takeSetCommand]
@[simp] theorem portOf_takeHoldCommand (a : Fin Config.actuators) :
    portOf (takeHoldCommand a s) = portOf s := by
  unfold takeHoldCommand; split <;> rfl
@[simp] theorem portOf_startFreeWait (a : Fin Config.actuators) :
    portOf (startFreeWait a s) = portOf s := by
  rfl
@[simp] theorem portOf_takeFreeCommand (a : Fin Config.actuators) :
    portOf (takeFreeCommand a s) = portOf s := by
  unfold takeFreeCommand; dsimp only; (repeat' split) <;> simp
@[simp] theorem portOf_endWaitFree (a : Fin Config.actuators) :
    portOf (endWaitFree a s) = portOf s := by
  rfl
@[simp] theorem portOf_endWaitFault (a : Fin Config.actuators) (c : ActCause) :
    portOf (endWaitFault a c s) = portOf s := by
  unfold endWaitFault; dsimp only; split <;> simp
@[simp] theorem portOf_storeReport (a : Fin Config.actuators) (rep : CardReport) :
    portOf (storeReport a rep s) = portOf s := by
  unfold storeReport; split <;> rfl
@[simp] theorem portOf_followingCheck (a : Fin Config.actuators) (rep : CardReport) :
    portOf (followingCheck a rep s) = portOf s := by
  unfold followingCheck; dsimp only; split <;> simp
@[simp] theorem portOf_settle (a : Fin Config.actuators) :
    portOf (Machine.settle a s) = portOf s := by
  rfl
@[simp] theorem portOf_judgeDriven (a : Fin Config.actuators) (rep : CardReport) :
    portOf (judgeDriven a rep s) = portOf s := by
  unfold judgeDriven; dsimp only; (repeat' split) <;> simp
@[simp] theorem portOf_judgeFreeWait (a : Fin Config.actuators) (rep : CardReport) :
    portOf (judgeFreeWait a rep s) = portOf s := by
  unfold judgeFreeWait; (repeat' split) <;> simp
@[simp] theorem portOf_judgeReport (a : Fin Config.actuators) (rep : CardReport) (b : Bool) :
    portOf (judgeReport a rep b s) = portOf s := by
  unfold judgeReport; dsimp only; (repeat' split) <;> simp
@[simp] theorem portOf_takeReport (a : Fin Config.actuators) (u : List Byte) :
    portOf (takeReport a u s) = portOf s := by
  unfold takeReport; split <;> simp
@[simp] theorem portOf_loseLink (a : Fin Config.actuators) :
    portOf (loseLink a s) = portOf s := by
  rfl
@[simp] theorem portOf_takeReportTimerExpiry (a : Fin Config.actuators) :
    portOf (takeReportTimerExpiry a s) = portOf s := by
  unfold takeReportTimerExpiry; (repeat' split) <;> simp
@[simp] theorem portOf_takeSettleTimerExpiry (a : Fin Config.actuators) :
    portOf (takeSettleTimerExpiry a s) = portOf s := by
  unfold takeSettleTimerExpiry; (repeat' split) <;> simp
@[simp] theorem portOf_takeFreeTimerExpiry (a : Fin Config.actuators) :
    portOf (takeFreeTimerExpiry a s) = portOf s := by
  unfold takeFreeTimerExpiry; (repeat' split) <;> simp
@[simp] theorem portOf_takeEnableActuator (a : Fin Config.actuators) :
    portOf (takeEnableActuator a s).1 = portOf s := by
  unfold takeEnableActuator; dsimp only; (repeat' split) <;> simp
@[simp] theorem portOf_takeDisableActuator (a : Fin Config.actuators) :
    portOf (takeDisableActuator a s).1 = portOf s := by
  unfold takeDisableActuator; split <;> rfl
@[simp] theorem portOf_takeClearFault (a : Fin Config.actuators) :
    portOf (takeClearFault a s).1 = portOf s := by
  unfold takeClearFault; dsimp only; (repeat' split) <;> simp
@[simp] theorem portOf_storeActStation (a : Fin Config.actuators) (x : Nat) :
    portOf (storeActStation a x s) = portOf s := by
  rfl
@[simp] theorem portOf_writeActuator (a : Fin Config.actuators) (f : Nat) (x : Int) :
    portOf (writeActuator a f x s).1 = portOf s := by
  unfold writeActuator restWrite; dsimp only; (repeat' split) <;> simp
@[simp] theorem portOf_sweepActuator (a : Fin Config.actuators) :
    portOf (sweepActuator a s) = portOf s := by
  rfl
@[simp] theorem portOf_setStandbyState (b : BankState) :
    portOf (setStandbyState b s) = portOf s := by
  rfl
@[simp] theorem portOf_exchangeRoles :
    portOf (exchangeRoles s) = portOf s := by
  rfl
@[simp] theorem portOf_swapAtRest :
    portOf (swapAtRest s) = portOf s := by
  rfl
@[simp] theorem portOf_takeCommitBank :
    portOf (takeCommitBank s).1 = portOf s := by
  unfold takeCommitBank; (repeat' split) <;> rfl
@[simp] theorem portOf_takeSwapInFlight :
    portOf (takeSwapInFlight s).1 = portOf s := by
  unfold takeSwapInFlight; (repeat' split) <;> rfl
@[simp] theorem portOf_takeSwapBank :
    portOf (takeSwapBank s).1 = portOf s := by
  unfold takeSwapBank; (repeat' split) <;> simp
@[simp] theorem portOf_takeCancelSwap :
    portOf (takeCancelSwap s).1 = portOf s := by
  unfold takeCancelSwap; split <;> rfl
@[simp] theorem portOf_settleSwap :
    portOf (settleSwap s) = portOf s := by
  unfold settleSwap; split <;> rfl
@[simp] theorem portOf_writeStandbyBank (f : Nat) (x : Int) :
    portOf (writeStandbyBank f x s).1 = portOf s := by
  unfold writeStandbyBank; (repeat' split) <;> rfl
@[simp] theorem portOf_commandSet (a : Fin Config.actuators) (x : Int) (r : Nat) :
    portOf (commandSet a x r s) = portOf s := by
  rfl
@[simp] theorem portOf_commandSets (r : Nat) (ts : List (Fin Config.actuators × Int)) :
    portOf (commandSets r ts s) = portOf s := by
  exact portOf_foldl _ (fun _ _ => by simp) _ _
@[simp] theorem portOf_enterSeq (q : SeqState) :
    portOf (enterSeq q s) = portOf s := by
  rfl
@[simp] theorem portOf_startStep :
    portOf (startStep s) = portOf s := by
  simp [startStep]
@[simp] theorem portOf_endRamp (q : SeqState) :
    portOf (endRamp q s) = portOf s := by
  rfl
@[simp] theorem portOf_startRestRamp :
    portOf (startRestRamp s) = portOf s := by
  unfold startRestRamp; split <;> simp
@[simp] theorem portOf_closeTheInterval :
    portOf (closeTheInterval s) = portOf s := by
  rfl
@[simp] theorem portOf_countPass :
    portOf (countPass s) = portOf s := by
  rfl
@[simp] theorem portOf_countIntervalPass :
    portOf (countIntervalPass s) = portOf s := by
  unfold countIntervalPass; dsimp only; split <;> simp
@[simp] theorem portOf_turnDirection :
    portOf (turnDirection s) = portOf s := by
  unfold turnDirection; split <;> rfl
@[simp] theorem portOf_settleAndTurn (b : Bool) :
    portOf (settleAndTurn b s) = portOf s := by
  unfold settleAndTurn; (repeat' split) <;> simp
@[simp] theorem portOf_passBoundary (b : Bool) :
    portOf (passBoundary b s) = portOf s := by
  unfold passBoundary; dsimp only; (repeat' split) <;> simp
@[simp] theorem portOf_completeStep (b : Bool) :
    portOf (completeStep b s) = portOf s := by
  unfold completeStep; (repeat' split) <;> simp
@[simp] theorem portOf_takeDwellExpiry :
    portOf (takeDwellExpiry s) = portOf s := by
  unfold takeDwellExpiry; (repeat' split) <;> simp
@[simp] theorem portOf_obeyFall (c : Fin Config.actuators → Bool) :
    portOf (obeyFall c s) = portOf s := by
  unfold obeyFall; split <;> simp
@[simp] theorem portOf_takeDerateFall (z : Nat) :
    portOf (takeDerateFall z s) = portOf s := by
  simp [takeDerateFall]
@[simp] theorem portOf_changeScale (v : Nat) :
    portOf (changeScale v s) = portOf s := by
  unfold changeScale; split <;> simp
@[simp] theorem portOf_takeSetScale (v : Nat) :
    portOf (takeSetScale v s).1 = portOf s := by
  unfold takeSetScale; split <;> simp [answerScale]
@[simp] theorem portOf_takeTrimUp :
    portOf (takeTrimUp s).1 = portOf s := by
  simp [takeTrimUp, answerScale]
@[simp] theorem portOf_takeTrimDown :
    portOf (takeTrimDown s).1 = portOf s := by
  simp [takeTrimDown, answerScale]
@[simp] theorem portOf_beginArming (l : List LinePlace) :
    portOf (beginArming l s) = portOf s := by
  simp [beginArming]
@[simp] theorem portOf_takeArm :
    portOf (takeArm s).1 = portOf s := by
  unfold takeArm; dsimp only; (repeat' split) <;> simp
@[simp] theorem portOf_beginRunning :
    portOf (beginRunning s) = portOf s := by
  simp [beginRunning]
@[simp] theorem portOf_startChecked :
    portOf (startChecked s).1 = portOf s := by
  unfold startChecked; (repeat' split) <;> simp
@[simp] theorem portOf_takeStart :
    portOf (takeStart s).1 = portOf s := by
  unfold takeStart; split <;> simp
@[simp] theorem portOf_takeResume :
    portOf (takeResume s).1 = portOf s := by
  unfold takeResume; split <;> simp
@[simp] theorem portOf_enterDisarming :
    portOf (enterDisarming s) = portOf s := by
  rfl
@[simp] theorem portOf_takeDisarm :
    portOf (takeDisarm s).1 = portOf s := by
  unfold takeDisarm; split <;> rfl
@[simp] theorem portOf_enterIdle :
    portOf (enterIdle s) = portOf s := by
  unfold enterIdle; split <;> rfl
@[simp] theorem portOf_takeFreed (a : Fin Config.actuators) :
    portOf (takeFreed a s) = portOf s := by
  unfold takeFreed; dsimp only; (repeat' split) <;> simp
@[simp] theorem portOf_takeHalt :
    portOf (takeHalt s).1 = portOf s := by
  unfold takeHalt; split <;> rfl
@[simp] theorem portOf_takeHaltRequest (c : HaltCause) :
    portOf (takeHaltRequest c s) = portOf s := by
  unfold takeHaltRequest; split <;> rfl
@[simp] theorem portOf_haltNow (c : HaltCause) (o : HeldOrigin) :
    portOf (haltNow c o s) = portOf s := by
  rfl
@[simp] theorem portOf_takeStopNow :
    portOf (takeStopNow s).1 = portOf s := by
  unfold takeStopNow; split <;> rfl
@[simp] theorem portOf_takeRest :
    portOf (takeRest s).1 = portOf s := by
  unfold takeRest; split <;> simp
@[simp] theorem portOf_recordFault (a : Fin Config.actuators) :
    portOf (recordFault a s) = portOf s := by
  rfl
@[simp] theorem portOf_takeActFault (a : Fin Config.actuators) :
    portOf (takeActFault a s) = portOf s := by
  unfold takeActFault; (repeat' split) <;> simp
@[simp] theorem portOf_afterSettle (a : Fin Config.actuators) :
    portOf (afterSettle a s) = portOf s := by
  unfold afterSettle; (repeat' split) <;> rfl
@[simp] theorem portOf_takeSettled (a : Fin Config.actuators) (t : Tag) :
    portOf (takeSettled a t s) = portOf s := by
  unfold takeSettled; split <;> simp
@[simp] theorem portOf_takeCloseInterval :
    portOf (takeCloseInterval s).1 = portOf s := by
  rfl
@[simp] theorem portOf_takeClearPasses :
    portOf (takeClearPasses s).1 = portOf s := by
  unfold takeClearPasses; split <;> rfl
@[simp] theorem portOf_takeRezoneNotice (b : Bool) :
    portOf (takeRezoneNotice b s) = portOf s := by
  rfl
@[simp] theorem portOf_writeSequencerSetting (f : Nat) (x : Int) :
    portOf (writeSequencerSetting f x s).1 = portOf s := by
  unfold writeSequencerSetting; (repeat' split) <;> rfl
@[simp] theorem portOf_moveGauge (i : Fin Config.gauges) (g : Gauge) :
    portOf (moveGauge i g s) = portOf s := by
  rfl
@[simp] theorem portOf_moveGauges (f : Gauge → Gauge) :
    portOf (moveGauges f s) = portOf s := by
  rfl
@[simp] theorem portOf_leaveZero (n : Nat) (b : Bool) :
    portOf (leaveZero n b s) = portOf s := by
  unfold leaveZero; (repeat' split) <;> rfl
@[simp] theorem portOf_endShunt (i : Fin Config.gauges) (o : ShuntOutcome) :
    portOf (endShunt i o s) = portOf s := by
  rfl
@[simp] theorem portOf_countMiss :
    portOf (countMiss s) = portOf s := by
  rfl
@[simp] theorem portOf_applyEffect (i : Fin Config.gauges) (e : ReadingEffect) :
    portOf (applyEffect i e s) = portOf s := by
  unfold applyEffect; (repeat' split) <;> simp
@[simp] theorem portOf_alertEvent (f : State → State) (h : portOf (f s) = portOf s) :
    portOf (alertEvent f s) = portOf s := by
  simp [alertEvent, h]
@[simp] theorem portOf_takeOpenGauge (i : Fin Config.gauges) (k : Fin Config.scanners) (c : Fin Config.channels) (x : Nat) :
    portOf (takeOpenGauge i k c x s).1 = portOf s := by
  unfold takeOpenGauge; (repeat' split) <;> rfl
@[simp] theorem portOf_parseOpenGauge (ps : List Byte) :
    portOf (parseOpenGauge ps s).1 = portOf s := by
  unfold parseOpenGauge; (repeat' split) <;> simp
@[simp] theorem portOf_takeRetireGauge (i : Fin Config.gauges) :
    portOf (takeRetireGauge i s).1 = portOf s := by
  unfold takeRetireGauge; dsimp only; split <;> simp
@[simp] theorem portOf_takeSuspendGauge (i : Fin Config.gauges) :
    portOf (takeSuspendGauge i s).1 = portOf s := by
  unfold takeSuspendGauge; dsimp only; split <;> simp
@[simp] theorem portOf_takeWatchGauge (i : Fin Config.gauges) :
    portOf (takeWatchGauge i s).1 = portOf s := by
  unfold takeWatchGauge; dsimp only; split <;> simp
@[simp] theorem portOf_writeKey (i : Fin Config.gauges) (k : Fin Config.scanners) (c : Fin Config.channels) :
    portOf (writeKey i k c s).1 = portOf s := by
  unfold writeKey; (repeat' split) <;> rfl
@[simp] theorem portOf_writeOpenGauge (i : Fin Config.gauges) (f : Nat) (x : Int) :
    portOf (writeOpenGauge i f x s).1 = portOf s := by
  unfold writeOpenGauge; dsimp only; (repeat' split) <;> simp
@[simp] theorem portOf_writeGauge (i : Fin Config.gauges) (f : Nat) (x : Int) :
    portOf (writeGauge i f x s).1 = portOf s := by
  unfold writeGauge; split <;> simp
@[simp] theorem portOf_abandonShuntOn (k : Fin Config.scanners) :
    portOf (abandonShuntOn k s) = portOf s := by
  unfold abandonShuntOn; (repeat' split) <;> rfl
@[simp] theorem portOf_loseScanner (k : Fin Config.scanners) :
    portOf (loseScanner k s) = portOf s := by
  unfold loseScanner; dsimp only; split <;> simp
@[simp] theorem portOf_takeScannerTimerExpiry (k : Fin Config.scanners) :
    portOf (takeScannerTimerExpiry k s) = portOf s := by
  unfold takeScannerTimerExpiry; split <;> simp
@[simp] theorem portOf_takeLink (k : Fin Config.scanners) :
    portOf (takeLink k s) = portOf s := by
  unfold takeLink; split <;> rfl
@[simp] theorem portOf_takeScanFrame (k : Fin Config.scanners) (u : List Byte) :
    portOf (takeScanFrame k u s) = portOf s := by
  unfold takeScanFrame; split <;> simp
@[simp] theorem portOf_readGauge (i : Fin Config.gauges) (q : Quality) (v : Int) :
    portOf (readGauge i q v s) = portOf s := by
  simp [readGauge]
@[simp] theorem portOf_takeReading (k : Fin Config.scanners) (c : Byte) (q : Quality) (v : BitVec 16) :
    portOf (takeReading k c q v s) = portOf s := by
  unfold takeReading; split <;> simp
@[simp] theorem portOf_beginZero (l : List (Fin Config.gauges)) :
    portOf (beginZero l s) = portOf s := by
  unfold beginZero; dsimp only; (repeat' split) <;> simp <;> exact portOf_foldl _ (fun _ _ => by simp) _ _
@[simp] theorem portOf_takeZero (n : Nat) :
    portOf (takeZero n s).1 = portOf s := by
  unfold takeZero; (repeat' split) <;> simp
@[simp] theorem portOf_takeShunt (i : Fin Config.gauges) :
    portOf (takeShunt i s).1 = portOf s := by
  unfold takeShunt; dsimp only; (repeat' split) <;> simp
@[simp] theorem portOf_takeGscClose (n : BitVec 16) :
    portOf (takeGscClose n s) = portOf s := by
  rfl
@[simp] theorem portOf_writeLinkTimeout (x : Int) :
    portOf (writeLinkTimeout x s).1 = portOf s := by
  unfold writeLinkTimeout; split <;> rfl
@[simp] theorem portOf_sweepGauge (i : Fin Config.gauges) :
    portOf (sweepGauge i s) = portOf s := by
  unfold sweepGauge; dsimp only; split <;> simp
@[simp] theorem portOf_restartGsc :
    portOf (restartGsc s) = portOf s := by
  simp [restartGsc]
@[simp] theorem portOf_CrackEvent_raise (c : EventClass) (e : CrackEvent) :
    portOf (e.raise c).state = portOf e.state := by
  rfl
@[simp] theorem portOf_CrackEvent_touch (i : Fin Config.cracks) (z : Nat) (e : CrackEvent) :
    portOf (e.touch i z).state = portOf e.state := by
  unfold CrackEvent.touch; split <;> rfl
@[simp] theorem portOf_CrackEvent_finish (e : CrackEvent) :
    portOf e.finish = portOf e.state := by
  rfl
@[simp] theorem portOf_openRecord (i : Fin Config.cracks) (o : Origin) (x l h : Nat) (c : CrackState) (d w : Nat) (e : CrackEvent) :
    portOf (openRecord i o x l h c d w e).state = portOf e.state := by
  simp [openRecord]
@[simp] theorem portOf_confirmRecord (i : Fin Config.cracks) (e : CrackEvent) :
    portOf (confirmRecord i e).state = portOf e.state := by
  simp [confirmRecord]
@[simp] theorem portOf_unbindLoops (l : List (Fin Config.loops)) :
    portOf (unbindLoops l s) = portOf s := by
  exact portOf_foldl _ (fun _ _ => by simp) _ _
@[simp] theorem portOf_vacateRecord (i : Fin Config.cracks) (e : CrackEvent) :
    portOf (vacateRecord i e).state = portOf e.state := by
  simp [vacateRecord]
@[simp] theorem portOf_growthTest (i : Fin Config.cracks) (e : CrackEvent) :
    portOf (growthTest i e).state = portOf e.state := by
  unfold growthTest; dsimp only; split <;> rfl
@[simp] theorem portOf_tallyHit (z x : Nat) :
    portOf (tallyHit z x s) = portOf s := by
  rfl
@[simp] theorem portOf_joinAcoustic (i : Fin Config.cracks) (x : Nat) (e : CrackEvent) :
    portOf (joinAcoustic i x e).state = portOf e.state := by
  unfold joinAcoustic; dsimp only; split <;> simp
@[simp] theorem portOf_acousticEvidence (x z : Nat) (e : CrackEvent) :
    portOf (acousticEvidence x z e).state = portOf e.state := by
  unfold acousticEvidence; split <;> simp
@[simp] theorem portOf_bindLoop (l : Fin Config.loops) (i : Fin Config.cracks) :
    portOf (bindLoop l i s) = portOf s := by
  rfl
@[simp] theorem portOf_joinWire (l : Fin Config.loops) (i : Fin Config.cracks) (x : Nat) (e : CrackEvent) :
    portOf (joinWire l i x e).state = portOf e.state := by
  unfold joinWire; dsimp only; split <;> simp
@[simp] theorem portOf_wireEvidence (l : Fin Config.loops) (x : Nat) (e : CrackEvent) :
    portOf (wireEvidence l x e).state = portOf e.state := by
  unfold wireEvidence; (repeat' split) <;> simp
@[simp] theorem portOf_settleSuspect (i : Fin Config.cracks) (e : CrackEvent) :
    portOf (settleSuspect e i).state = portOf e.state := by
  unfold settleSuspect; dsimp only; (repeat' split) <;> simp
@[simp] theorem portOf_openFromTally (t : Tally) (e : CrackEvent) :
    portOf (openFromTally e t).state = portOf e.state := by
  unfold openFromTally; (repeat' split) <;> simp
@[simp] theorem portOf_takeCwuClose :
    portOf (takeCwuClose s) = portOf s := by
  simp only [takeCwuClose, portOf_CrackEvent_finish, CrackEvent_map_state, portOf_clearTallies]
  have h : ∀ (f : CrackEvent → Tally → CrackEvent), (∀ e t, portOf (f e t).state = portOf e.state) →
      ∀ (ts : List Tally) e, portOf (ts.foldl f e).state = portOf e.state := by
    intro f hf ts
    induction ts with
    | nil => intro e; rfl
    | cons t ts ih => intro e; rw [List.foldl_cons, ih, hf]
  have h2 : ∀ (is : List (Fin Config.cracks)) e, portOf (is.foldl settleSuspect e).state = portOf e.state := by
    intro is
    induction is with
    | nil => intro e; rfl
    | cons t ts ih => intro e; rw [List.foldl_cons, ih, portOf_settleSuspect]
  rw [h _ (fun e t => portOf_openFromTally t e), h2]
  rfl
@[simp] theorem portOf_takeOpenCrack (x l h : Nat) (c : CrackState) (d : Nat) :
    portOf (takeOpenCrack x l h c d s).1 = portOf s := by
  unfold takeOpenCrack; (repeat' split) <;> simp
@[simp] theorem portOf_parseOpenCrack (ps : List Byte) :
    portOf (parseOpenCrack ps s).1 = portOf s := by
  unfold parseOpenCrack; dsimp only; (repeat' split) <;> simp
@[simp] theorem portOf_takeConfirmCrack (i : Fin Config.cracks) :
    portOf (takeConfirmCrack i s).1 = portOf s := by
  unfold takeConfirmCrack; (repeat' split) <;> simp
@[simp] theorem portOf_takeArrestCrack (i : Fin Config.cracks) :
    portOf (takeArrestCrack i s).1 = portOf s := by
  unfold takeArrestCrack; dsimp only; (repeat' split) <;> simp
@[simp] theorem portOf_takeRetireCrack (i : Fin Config.cracks) :
    portOf (takeRetireCrack i s).1 = portOf s := by
  unfold takeRetireCrack; (repeat' split) <;> simp
@[simp] theorem portOf_writeCrack (i : Fin Config.cracks) (f : Nat) (x : Int) :
    portOf (writeCrack i f x s).1 = portOf s := by
  unfold writeCrack; dsimp only; (repeat' split) <;> simp
@[simp] theorem portOf_storeGrowthLimit (v : Nat) :
    portOf (storeGrowthLimit v s) = portOf s := by
  rfl
@[simp] theorem portOf_writeCrackSetting (f : Nat) (x : Int) :
    portOf (writeCrackSetting f x s).1 = portOf s := by
  unfold writeCrackSetting; (repeat' split) <;> rfl
@[simp] theorem portOf_sweepCrack (i : Fin Config.cracks) :
    portOf (sweepCrack i s) = portOf s := by
  unfold sweepCrack; dsimp only; split <;> simp
@[simp] theorem portOf_takeConfirmTimerExpiry (l : Fin Config.loops) :
    portOf (takeConfirmTimerExpiry l s) = portOf s := by
  unfold takeConfirmTimerExpiry; dsimp only; (repeat' split) <;> simp
@[simp] theorem portOf_takeEnableLoop (l : Fin Config.loops) :
    portOf (takeEnableLoop l s).1 = portOf s := by
  unfold takeEnableLoop; dsimp only; (repeat' split) <;> simp
@[simp] theorem portOf_unlistLoop (l : Fin Config.loops) :
    portOf (unlistLoop l s) = portOf s := by
  unfold unlistLoop; split <;> rfl
@[simp] theorem portOf_takeRearmLoop (l : Fin Config.loops) :
    portOf (takeRearmLoop l s).1 = portOf s := by
  unfold takeRearmLoop; dsimp only; (repeat' split) <;> simp
@[simp] theorem portOf_takeDisableLoop (l : Fin Config.loops) :
    portOf (takeDisableLoop l s).1 = portOf s := by
  unfold takeDisableLoop; dsimp only; split <;> simp
@[simp] theorem portOf_writeLoop (l : Fin Config.loops) (f : Nat) (x : Int) :
    portOf (writeLoop l f x s).1 = portOf s := by
  unfold writeLoop; dsimp only; (repeat' split) <;> simp
@[simp] theorem portOf_forgetHits (c : Fin Config.sensors) :
    portOf (forgetHits c s) = portOf s := by
  rfl
@[simp] theorem portOf_storeSensorStation (c : Fin Config.sensors) (x : Nat) :
    portOf (storeSensorStation c x s) = portOf s := by
  unfold storeSensorStation; dsimp only; split <;> simp
@[simp] theorem portOf_storeSensorEnabled (c : Fin Config.sensors) (b : Bool) :
    portOf (storeSensorEnabled c b s) = portOf s := by
  unfold storeSensorEnabled; split <;> rfl
@[simp] theorem portOf_writeSensor (c : Fin Config.sensors) (f : Nat) (x : Int) :
    portOf (writeSensor c f x s).1 = portOf s := by
  unfold writeSensor; dsimp only; (repeat' split) <;> simp
@[simp] theorem portOf_writeAcousticSetting (f : Nat) (x : Int) :
    portOf (writeAcousticSetting f x s).1 = portOf s := by
  unfold writeAcousticSetting; (repeat' split) <;> rfl
@[simp] theorem portOf_takeLocated (x n : Nat) :
    portOf (takeLocated x n s) = portOf s := by
  unfold takeLocated; (repeat' split) <;> simp
@[simp] theorem portOf_pairHit (h : Hit) (hs : List Hit) :
    portOf (pairHit h hs s) = portOf s := by
  unfold pairHit; split <;> simp
@[simp] theorem portOf_takeHit (u : List Byte) :
    portOf (takeHit u s) = portOf s := by
  unfold takeHit; dsimp only; (repeat' split) <;> simp
@[simp] theorem portOf_sweepLoop (l : Fin Config.loops) :
    portOf (sweepLoop l s) = portOf s := by
  rfl
@[simp] theorem portOf_sweepSensor (c : Fin Config.sensors) :
    portOf (sweepSensor c s) = portOf s := by
  rfl
@[simp] theorem portOf_sweepCwu (n : Nat) :
    portOf (sweepCwu n s) = portOf s := by
  unfold sweepCwu; (repeat' split) <;> simp
@[simp] theorem portOf_restartCwu :
    portOf (restartCwu s) = portOf s := by
  rfl
@[simp] theorem portOf_setSweep (o : Owner) (w : Sweep) :
    portOf (setSweep o w s) = portOf s := by
  unfold setSweep; split <;> rfl
@[simp] theorem portOf_takeRezoneSweep (o : Owner) :
    portOf (takeRezoneSweep o s) = portOf s := by
  unfold takeRezoneSweep; split <;> rfl
@[simp] theorem portOf_sweepOne (o : Owner) (n : Nat) :
    portOf (sweepOne o n s) = portOf s := by
  unfold sweepOne; (repeat' split) <;> simp
@[simp] theorem portOf_takeSweepRecord (o : Owner) :
    portOf (takeSweepRecord o s) = portOf s := by
  unfold takeSweepRecord; (repeat' split) <;> simp
@[simp] theorem portOf_touchCell (t : WTable) (r f : Nat) :
    portOf (touchCell t r f s) = portOf s := by
  unfold touchCell; split <;> rfl
@[simp] theorem portOf_writeZone (z f : Nat) (x : Int) :
    portOf (writeZone z f x s).1 = portOf s := by
  unfold writeZone; (repeat' split) <;> simp
@[simp] theorem portOf_writeSetting (f : Nat) (x : Int) :
    portOf (writeSetting f x s).1 = portOf s := by
  unfold writeSetting; (repeat' split) <;> simp
theorem portOf_writeRecord {n : Nat} (f : Fin n → Nat → Int → State → State × Option Reason)
    (h : ∀ i j x t, portOf (f i j x t).1 = portOf t) (r j : Nat) (x : Int) :
    portOf (writeRecord f r j x s).1 = portOf s := by
  unfold writeRecord; split <;> simp [h]
@[simp] theorem portOf_writeCell (t : WTable) (r f : Nat) (v : Word) :
    portOf (writeCell t r f v s).1 = portOf s := by
  unfold writeCell
  cases t <;> first | rfl | exact portOf_writeRecord _ (fun _ _ _ _ => by simp) _ _ _ | simp
@[simp] theorem portOf_restartPart (b : Block) :
    portOf (restartPart b s) = portOf s := by
  unfold restartPart; split <;> simp
@[simp] theorem portOf_takeRestartNotice (b : Block) :
    portOf (takeRestartNotice b s) = portOf s := by
  simp [takeRestartNotice]
@[simp] theorem portOf_readCells (t : WTable) (cs : List (Nat × Nat)) :
    portOf (readCells t cs s).1 = portOf s := by
  induction cs generalizing s with
  | nil => rfl
  | cons c cs ih => simp [readCells, ih]
@[simp] theorem portOf_writeCells (t : WTable) (cs : List ((Nat × Nat) × Word)) :
    portOf (writeCells t cs s).1 = portOf s := by
  induction cs generalizing s with
  | nil => rfl
  | cons c cs ih => simp [writeCells, ih]
@[simp] theorem portOf_takeSettingClaims (b : Block) (cs : List SettingClaim) :
    portOf (takeSettingClaims b cs s).1 = portOf s := by
  have h : ∀ (cs : List SettingClaim) (t : State × List SettingClaim), portOf (cs.foldl (fun t c =>
      if settingOwner c.field = b then
        let y := writeCell .settings 0 c.field c.value t.1
        (y.1, t.2 ++ [{ c with outcome := some y.2 }])
      else (t.1, t.2 ++ [c])) t).1 = portOf t.1 := by
    intro cs
    induction cs with
    | nil => intro t; rfl
    | cons c cs ih => intro t; rw [List.foldl_cons, ih]; split <;> simp
  exact h cs (s, [])
/-- An owner's event for a READ DATA or WRITE DATA; its answer to STATUS takes its reports to SP first (R174). -/
theorem portOf_ownerEvent (b : Block) (op : GatherOp) (h : ∀ g, op ≠ .status g) :
    portOf (ownerEvent b op s).1 = portOf s := by
  unfold ownerEvent; split
  · exact absurd rfl (h _)
  · rfl
  · simp
/-- An owner's event leaves the queue, the reset line and the loop inputs, whatever the request. -/
theorem ownerEvent_outside (b : Block) (op : GatherOp) :
    (ownerEvent b op s).1.pending = s.pending ∧ (ownerEvent b op s).1.resetHeld = s.resetHeld ∧
      (ownerEvent b op s).1.loopInputs = s.loopInputs := by
  by_cases h : ∃ g, op = .status g
  · obtain ⟨g, rfl⟩ := h
    have e : (ownerEvent b (.status g) s).1 =
        { s with sp := (takeReportsOf b s).sp, transit := (takeReportsOf b s).transit } := takeReportsOf_event b s
    exact ⟨(congrArg State.pending e).trans rfl, (congrArg State.resetHeld e).trans rfl,
      (congrArg State.loopInputs e).trans rfl⟩
  · have e := portOf_ownerEvent (s := s) b op fun g hg => h ⟨g, hg⟩
    exact ⟨congrArg Prod.fst e, congrArg (fun x => x.2.1) e, congrArg (fun x => x.2.2.1) e⟩
@[simp] theorem portOf_search (q : Lookup) (rs : List Nat) : portOf (q.search rs s).1 = portOf s := by
  induction rs generalizing s with
  | nil => rfl
  | cons r rs ih =>
    unfold Lookup.search; dsimp only; (repeat' split) <;> simp [ih]
@[simp] theorem portOf_takeFind (ps : List Byte) : portOf (takeFind ps s).1 = portOf s := by
  unfold takeFind; (repeat' split) <;> simp


end Sys2Proof.Machine
end

