-- ==== Sys2Proof/Laws/Request.lean ====
section
/-! SUPPORT. Laws/Request.lean: a host request the part takes, by the form of its parameters: its owner's operation on
the state with the slot WORKING. -/
namespace Sys2Proof.Machine

variable {s : State}

/-- The state an answered request leaves, in two stages. -/
theorem answered_eq (code : Byte) (r : Reply) (t : State) : answered code r t = replied code r (atOwner code t) := rfl

/-- The answer setting out, as the claims name it. -/
theorem postAnswer_eq (code : Byte) (r : Reply) (t : State) : postAnswer code r t = replied code r t := rfl

/-- The owners asked, as the claims name it. -/
theorem askOwners_eq (g : Gather) (t : State) : askOwners g t = asked g t := rfl

/-- Everything an owner's answer coming in at SP does. -/
theorem gatherOn_eq (g : Gather) (t : State) : gatherOn g t = gathered g (g.data t.sp) t := by
  unfold gatherOn gathered; split <;> rfl

/-- Everything the event of an owner that SP waits for does. -/
theorem takeOwnerAnswer_asked {b : Block} {g : Gather} (hg : s.sp.gather = some g) (hb : b ∈ g.waiting) :
    takeOwnerAnswer b s =
      let x := ownerEvent b g.op s
      gathered { g with op := x.2, waiting := g.waiting.erase b }
        (Gather.data { g with op := x.2, waiting := g.waiting.erase b } x.1.sp) x.1 := by
  simp [takeOwnerAnswer, hg, hb, gatherOn_eq]

/-- An owner that SP does not wait for changes nothing. -/
theorem takeOwnerAnswer_unasked {b : Block} (h : ∀ g, s.sp.gather = some g → b ∉ g.waiting) :
    takeOwnerAnswer b s = s := by
  unfold takeOwnerAnswer
  split
  · rfl
  · rename_i g hg; simp [h g hg]

/-- A request that ends AMEND is taken (R168, R169, R191). -/
theorem hostRequest_at {code : Byte} (take : List Byte → State → Taken) {tail params : List Byte} (h : PortFree s)
    (k : keepsAmend code = false) (hf : frameParams tail = some params) :
    hostRequest code take tail s = .next (postTaken code (take params (atOwner code s))) := by
  rw [hostRequest_taken code take h.1 h.2 hf]
  simp [atOwner, k, endAmend, occupySlot, onSp]

/-- A request that keeps AMEND is taken (R168, R169, R191). -/
theorem hostRequestKeepingAmend_at {code : Byte} (take : List Byte → State → Taken) {tail params : List Byte}
    (h : PortFree s) (k : keepsAmend code = true) (hf : frameParams tail = some params) :
    hostRequestKeepingAmend code take tail s = .next (postTaken code (take params (atOwner code s))) := by
  rw [hostRequestKeepingAmend_taken code take h.1 h.2 hf]
  simp [atOwner, k, occupySlot, onSp]

/-- A request with no parameters is taken. -/
theorem request_none {code : Byte} (f : State → Taken) (h : PortFree s) (k : keepsAmend code = false) :
    hostRequest code (noParams f) [0] s = .next (postTaken code (f (atOwner code s))) := by
  rw [hostRequest_at _ h k frameParams_none]; rfl

/-- A request that keeps AMEND, with no parameters, is taken. -/
theorem requestKeepingAmend_none {code : Byte} (f : State → Taken) (h : PortFree s) (k : keepsAmend code = true) :
    hostRequestKeepingAmend code (noParams f) [0] s = .next (postTaken code (f (atOwner code s))) := by
  rw [hostRequestKeepingAmend_at _ h k frameParams_none]; rfl

/-- A request with one parameter byte is taken. -/
theorem request_byte {code : Byte} (f : Nat → State → Taken) (b : Byte) (h : PortFree s) (k : keepsAmend code = false) :
    hostRequest code (oneByte f) [1, b] s = .next (postTaken code (f b.toNat (atOwner code s))) := by
  rw [hostRequest_at _ h k (frameParams_one b)]; rfl

/-- A request with one two-byte parameter is taken. -/
theorem request_word {code : Byte} (f : Nat → State → Taken) (b c : Byte) (h : PortFree s)
    (k : keepsAmend code = false) :
    hostRequest code (oneWord f) [2, b, c] s = .next (postTaken code (f (u16 b c) (atOwner code s))) := by
  rw [hostRequest_at _ h k (frameParams_two b c)]; rfl

/-- A byte that names a record goes to that record. -/
theorem indexed_lt {n i : Nat} (f : Fin n → State → Taken) (hi : i < n) : indexed f i s = f ⟨i, hi⟩ s := by
  simp [indexed, Table.index?_lt hi]

/-- A byte that names no record is refused with RANGE. -/
theorem indexed_ge {n i : Nat} (f : Fin n → State → Taken) (hi : n ≤ i) : indexed f i s = refuse s .range := by
  simp [indexed, Table.index?_ge hi]

/-- Every request frame but FETCH is handled in one of two ways: as a request of its code, or as an unknown frame. -/
theorem exec_of_frame {c : Instr} {code : Byte} {tail : List Byte} (he : encodeFrame c = some (code :: tail))
    (hc : code ≠ 0) :
    (∃ k take, ∀ s, exec c s = .next (unlessHeld (portFrame code k take tail) s)) ∨ c = .unknown code tail := by
  cases c
  case fetch => simp [encodeFrame] at he; exact absurd he.1.symm hc
  case unknown => simp [encodeFrame] at he; obtain ⟨rfl, rfl⟩ := he; exact .inr rfl
  all_goals first
    | (simp [encodeFrame] at he; done)
    | (simp [encodeFrame] at he; obtain ⟨rfl, rfl⟩ := he; exact .inl ⟨_, _, fun _ => rfl⟩)

end Sys2Proof.Machine
end

