-- ==== Sys2Proof/Laws/Gsc.lean ====
section
/-! SUPPORT. Laws/Gsc.lean: what the Gauge Scanner's shared operations do, whole: a record moved, every record moved, the
ANY_ALERT edge, a ZERO left, a SHUNT ended, a miss counted. -/
namespace Sys2Proof.Machine

/-- A second touch under one interval number changes nothing (R121). -/
@[simp] theorem Gauge.touch_touch (n : BitVec 16) (g : Gauge) : (g.touch n).touch n = g.touch n := by
  unfold Gauge.touch
  by_cases h : g.state = .vacant ∨ g.live.number = n <;> simp [h]

/-- Everything the move of one record does. -/
theorem moveGauge_eq (i : Fin Config.gauges) (g : Gauge) (s : State) : moveGauge i g s = gaugeMoved i g s := rfl

/-- Everything the move of every record does. -/
theorem moveGauges_eq (f : Gauge → Gauge) (s : State) :
    moveGauges f s = { s with
      gsc := { s.gsc with gauges := s.gsc.gauges.map f }
      transit := s.transit ++
        s.gsc.gauges.rows.zipIdx.flatMap fun x => if s.gsc.sweep.passed x.2 then claimsOf x.1 (f x.1) else [] } := rfl

/-- Everything the close of a GSC event does. -/
theorem alertEvent_eq (f : State → State) (s : State) : alertEvent f s = withAlertEdge s (f s) := by
  unfold alertEvent withAlertEdge
  rw [reportEdge_eq]; rfl

/-- A record out of a ZERO that goes on. -/
theorem leaveZero_goesOn {n : Nat} {zeroed : Bool} {z : ZeroOp} {s : State} (h : s.gsc.zeroOp = some z)
    (hn : n < z.pending) :
    let w : ZeroOp :=
      { pending := z.pending - n, zeroed := if zeroed then z.zeroed + n else z.zeroed,
        skipped := if zeroed then z.skipped else z.skipped + n }
    leaveZero n zeroed s = { s with gsc := { s.gsc with zeroOp := some w } } := by
  dsimp only
  unfold leaveZero
  rw [h]
  refine (if_neg (Nat.not_le.2 hn)).trans ?_
  cases zeroed <;> rfl

/-- The last record out of a ZERO. -/
theorem leaveZero_last {n : Nat} {zeroed : Bool} {z : ZeroOp} {s : State} (h : s.gsc.zeroOp = some z)
    (hn : z.pending ≤ n) :
    leaveZero n zeroed s = { s with
      gsc := { s.gsc with
        zeroOp := none, lastZeroed := if zeroed then z.zeroed + n else z.zeroed
        lastSkipped := if zeroed then z.skipped else z.skipped + n }
      transit := s.transit ++ [.attentionEventReport .opDone] } := by
  unfold leaveZero
  rw [h]
  refine (if_pos hn).trans ?_
  cases zeroed <;> rfl

/-- Everything the end of a SHUNT does. -/
theorem endShunt_eq (i : Fin Config.gauges) (o : ShuntOutcome) (s : State) :
    endShunt i o s = { s with
      gsc := { s.gsc with
        gauges := s.gsc.gauges.set i { gauge i s with shuntPending := false }
        shuntOp := none, lastShuntGauge := i.val, lastShuntOutcome := o }
      transit := s.transit ++ [.attentionEventReport .opDone] } := rfl

/-- The entry of the channel map a key names. -/
theorem gaugeAt_eq {k : Fin Config.scanners} {ch : Nat} {s : State} (h : ch < 128) :
    gaugeAt k ch s = s.gsc.chanMap.getD (k.val * 128 + ch) none := if_pos h

end Sys2Proof.Machine
end

