-- ==== Sys2Proof/Laws/Lsq.lean ====
section
/-! SUPPORT. Laws/Lsq.lean: what the sequencer's shared operations do, whole: SET commands, a step start, the rest ramp,
an immediate halt, disarming. -/
namespace Sys2Proof.Machine

/-- Everything the sending of SET commands does: their messages, and the awaited tags emptied. -/
theorem commandSets_eq (ramp : Nat) (ts : List (Fin Config.actuators × Int)) (s : State) :
    commandSets ramp ts s =
      { s with
        lsq := { s.lsq with awaited := awaitedAfter ts s.lsq.awaited }
        transit := s.transit ++ setsOf ramp ts } := by
  induction ts generalizing s with
  | nil => simp [commandSets, awaitedAfter, setsOf]
  | cons x xs ih =>
    have : commandSets ramp (x :: xs) s = commandSets ramp xs (commandSet x.1 x.2 ramp s) := rfl
    rw [this, ih]
    simp [commandSet, send, onLsq, awaitedAfter, setsOf]

/-- A table mapped to one value is filled with it. -/
theorem map_const_eq_fill {α β : Type} {n : Nat} (t : Table α n) (b : β) : t.map (fun _ => b) = Table.fill n b := by
  obtain ⟨rows, h⟩ := t
  simp [Table.map, Table.fill, List.map_const', h]

/-- The emptying of the awaited tags. -/
theorem emptyAwaited_eq (s : State) :
    emptyAwaited s = { s with lsq := { s.lsq with awaited := Table.fill _ none } } := by
  simp [emptyAwaited, onLsq, map_const_eq_fill]

/-- A SET command for an actuator is unanswered exactly when one is in transit. -/
theorem setUnanswered_iff (a : Fin Config.actuators) (s : State) :
    setUnanswered a s = true ↔ ∃ t r, .setCommand a t r ∈ s.transit := by
  simp only [setUnanswered, List.any_eq_true]
  constructor
  · rintro ⟨m, hm, h⟩
    cases m <;> simp [isSetCommandFor] at h
    subst h; exact ⟨_, _, hm⟩
  · rintro ⟨t, r, h⟩; exact ⟨_, h, by simp [isSetCommandFor]⟩

/-- Everything a step start does. -/
theorem startStep_eq (s : State) : startStep s = stepStarted s := by
  simp [startStep, commandSets_eq, stepStarted, setSeq, onLsq]

/-- Everything the start of the rest ramp does. -/
theorem startRestRamp_eq (s : State) : startRestRamp s = restRamped s := by
  unfold startRestRamp
  simp only [commandSets_eq]
  by_cases h : restTargets s = [] <;>
    simp [h, restRamped, enterSeq, setSeq, raise, send, onLsq, List.append_assoc]

/-- Everything an immediate halt does. -/
theorem haltNow_eq (c : HaltCause) (o : HeldOrigin) (s : State) : haltNow c o s = heldNow c o s := by
  simp only [haltNow, emptyAwaited_eq]
  simp [heldNow, enterSeq, setSeq, raise, send, sendAll, onLsq, isFaulted, List.append_assoc]

/-- Everything the entry to DISARMING does. -/
theorem enterDisarming_eq (s : State) : enterDisarming s = disarmingNow s := by
  simp only [enterDisarming, emptyAwaited_eq]
  simp [disarmingNow, setSeq, raise, send, sendAll, onLsq, lineActs, theLine, formLine, List.append_assoc]

end Sys2Proof.Machine
end

