-- ==== Sys2Proof/Laws/PerInstr.lean ====
section
/-! SUPPORT. Laws/PerInstr.lean: the family RoundTrip: the frame a host request is sent as spells that request. -/
namespace Sys2Proof.Laws.RoundTrip

/-- The bytes of a well-formed request's transaction spell that request (R167, 11.2). -/
def Statement (i : Instr) : Prop := i.wf = true → ∀ bytes, encodeFrame i = some bytes → decodeFrame bytes = some i

/-- A request code's own frame decodes by its table row. -/
theorem of_row {i : Instr} {code : Byte} {tail : List Byte} (h : encodeFrame i = some (code :: tail))
    (hd : requestOf code tail = i) : Statement i := by
  intro _ bytes hb
  rw [h] at hb
  cases hb
  simp [decodeFrame, hd]

/-- A command that is no host request has no frame. -/
theorem of_none {i : Instr} (h : encodeFrame i = none) : Statement i := by
  intro _ bytes hb
  rw [h] at hb
  cases hb

/-- A code that is no request code decodes to an UNKNOWN frame. -/
theorem requestOf_unknown (code : Byte) (tail : List Byte) (h : requestCodes.contains code.toNat = false) :
    requestOf code tail = .unknown code tail := by
  unfold requestOf
  split <;> first | rfl | (rename_i e; rw [e] at h; exact absurd h (by decide))

theorem fetch (clocked : Nat) : Statement (.fetch clocked) :=
  of_row (code := 0x00) (tail := List.replicate clocked 0) rfl (by simp [requestOf])
theorem status (tail : List Byte) : Statement (.status tail) := of_row rfl rfl
theorem readAttention (tail : List Byte) : Statement (.readAttention tail) := of_row rfl rfl
theorem setAttention (tail : List Byte) : Statement (.setAttention tail) := of_row rfl rfl
theorem restart (tail : List Byte) : Statement (.restart tail) := of_row rfl rfl
theorem setWindow (tail : List Byte) : Statement (.setWindow tail) := of_row rfl rfl
theorem readData (tail : List Byte) : Statement (.readData tail) := of_row rfl rfl
theorem writeData (tail : List Byte) : Statement (.writeData tail) := of_row rfl rfl
theorem amendOn (tail : List Byte) : Statement (.amendOn tail) := of_row rfl rfl
theorem amendOff (tail : List Byte) : Statement (.amendOff tail) := of_row rfl rfl
theorem find (tail : List Byte) : Statement (.find tail) := of_row rfl rfl
theorem arm (tail : List Byte) : Statement (.arm tail) := of_row rfl rfl
theorem start (tail : List Byte) : Statement (.start tail) := of_row rfl rfl
theorem halt (tail : List Byte) : Statement (.halt tail) := of_row rfl rfl
theorem stopNow (tail : List Byte) : Statement (.stopNow tail) := of_row rfl rfl
theorem resume (tail : List Byte) : Statement (.resume tail) := of_row rfl rfl
theorem rest (tail : List Byte) : Statement (.rest tail) := of_row rfl rfl
theorem disarm (tail : List Byte) : Statement (.disarm tail) := of_row rfl rfl
theorem setScale (tail : List Byte) : Statement (.setScale tail) := of_row rfl rfl
theorem trimUp (tail : List Byte) : Statement (.trimUp tail) := of_row rfl rfl
theorem trimDown (tail : List Byte) : Statement (.trimDown tail) := of_row rfl rfl
theorem closeInterval (tail : List Byte) : Statement (.closeInterval tail) := of_row rfl rfl
theorem clearPasses (tail : List Byte) : Statement (.clearPasses tail) := of_row rfl rfl
theorem rezone (tail : List Byte) : Statement (.rezone tail) := of_row rfl rfl
theorem setZoneDerate (tail : List Byte) : Statement (.setZoneDerate tail) := of_row rfl rfl
theorem enableActuator (tail : List Byte) : Statement (.enableActuator tail) := of_row rfl rfl
theorem disableActuator (tail : List Byte) : Statement (.disableActuator tail) := of_row rfl rfl
theorem clearFault (tail : List Byte) : Statement (.clearFault tail) := of_row rfl rfl
theorem commitBank (tail : List Byte) : Statement (.commitBank tail) := of_row rfl rfl
theorem swapBank (tail : List Byte) : Statement (.swapBank tail) := of_row rfl rfl
theorem cancelSwap (tail : List Byte) : Statement (.cancelSwap tail) := of_row rfl rfl
theorem openGauge (tail : List Byte) : Statement (.openGauge tail) := of_row rfl rfl
theorem retireGauge (tail : List Byte) : Statement (.retireGauge tail) := of_row rfl rfl
theorem suspendGauge (tail : List Byte) : Statement (.suspendGauge tail) := of_row rfl rfl
theorem watchGauge (tail : List Byte) : Statement (.watchGauge tail) := of_row rfl rfl
theorem zero (tail : List Byte) : Statement (.zero tail) := of_row rfl rfl
theorem shunt (tail : List Byte) : Statement (.shunt tail) := of_row rfl rfl
theorem enableLoop (tail : List Byte) : Statement (.enableLoop tail) := of_row rfl rfl
theorem rearmLoop (tail : List Byte) : Statement (.rearmLoop tail) := of_row rfl rfl
theorem disableLoop (tail : List Byte) : Statement (.disableLoop tail) := of_row rfl rfl
theorem openCrack (tail : List Byte) : Statement (.openCrack tail) := of_row rfl rfl
theorem confirmCrack (tail : List Byte) : Statement (.confirmCrack tail) := of_row rfl rfl
theorem arrestCrack (tail : List Byte) : Statement (.arrestCrack tail) := of_row rfl rfl
theorem retireCrack (tail : List Byte) : Statement (.retireCrack tail) := of_row rfl rfl
theorem unknown (code : Byte) (tail : List Byte) : Statement (.unknown code tail) := by
  intro hw
  exact of_row rfl (requestOf_unknown code tail (by simpa [Instr.wf] using hw)) hw
theorem answerToSlot (owner : Option Block) : Statement (.answerToSlot owner) := of_none rfl
theorem attentionEventReport (c : EventClass) : Statement (.attentionEventReport c) := of_none rfl
theorem conditionEdgeReport (c : CondClass) (e : Edge) : Statement (.conditionEdgeReport c e) := of_none rfl
theorem linkReport (l : Link) (lost : Bool) : Statement (.linkReport l lost) := of_none rfl
theorem restartNotice (b : Block) : Statement (.restartNotice b) := of_none rfl
theorem restartPartDone (b : Block) : Statement (.restartPartDone b) := of_none rfl
theorem overEnter (z : Nat) : Statement (.overEnter z) := of_none rfl
theorem overLeave (z : Nat) : Statement (.overLeave z) := of_none rfl
theorem faultEnter (z : Nat) : Statement (.faultEnter z) := of_none rfl
theorem faultLeave (z : Nat) : Statement (.faultLeave z) := of_none rfl
theorem crackDerate (z value count : Nat) : Statement (.crackDerate z value count) := of_none rfl
theorem loadMask (set : BitVec 32) : Statement (.loadMask set) := of_none rfl
theorem derateFall (z : Nat) : Statement (.derateFall z) := of_none rfl
theorem strainTrip : Statement .strainTrip := of_none rfl
theorem crackGrowth : Statement .crackGrowth := of_none rfl
theorem crackTableFull : Statement .crackTableFull := of_none rfl
theorem rezoneStateNotice (isOpen : Bool) : Statement (.rezoneStateNotice isOpen) := of_none rfl
theorem setCommand (a : Fin Config.actuators) (target : Int) (ramp : Nat) : Statement (.setCommand a target ramp) := of_none rfl
theorem holdCommand (a : Fin Config.actuators) : Statement (.holdCommand a) := of_none rfl
theorem freeCommand (a : Fin Config.actuators) : Statement (.freeCommand a) := of_none rfl
theorem settled (a : Fin Config.actuators) (tag : Tag) : Statement (.settled a tag) := of_none rfl
theorem actFault (a : Fin Config.actuators) (cause : ActCause) : Statement (.actFault a cause) := of_none rfl
theorem freed (a : Fin Config.actuators) : Statement (.freed a) := of_none rfl
theorem dwellTimerExpiry : Statement .dwellTimerExpiry := of_none rfl
theorem rezoneSweep (o : Owner) : Statement (.rezoneSweep o) := of_none rfl
theorem sweepRecord (o : Owner) : Statement (.sweepRecord o) := of_none rfl
theorem swept (o : Owner) : Statement (.swept o) := of_none rfl
theorem sweepDone (o : Owner) : Statement (.sweepDone o) := of_none rfl
theorem report (a : Fin Config.actuators) (unit : List Byte) : Statement (.report a unit) := of_none rfl
theorem reportTimerExpiry (a : Fin Config.actuators) : Statement (.reportTimerExpiry a) := of_none rfl
theorem settleTimerExpiry (a : Fin Config.actuators) : Statement (.settleTimerExpiry a) := of_none rfl
theorem freeTimerExpiry (a : Fin Config.actuators) : Statement (.freeTimerExpiry a) := of_none rfl
theorem scanFrame (k : Fin Config.scanners) (unit : List Byte) : Statement (.scanFrame k unit) := of_none rfl
theorem reading (k : Fin Config.scanners) (channel : Byte) (q : Quality) (value : BitVec 16) : Statement (.reading k channel q value) := of_none rfl
theorem scannerLinkTimerExpiry (k : Fin Config.scanners) : Statement (.scannerLinkTimerExpiry k) := of_none rfl
theorem gscIntervalClose (n : BitVec 16) : Statement (.gscIntervalClose n) := of_none rfl
theorem loopLineChange (l : Fin Config.loops) (closed : Bool) : Statement (.loopLineChange l closed) := of_none rfl
theorem confirmTimerExpiry (l : Fin Config.loops) : Statement (.confirmTimerExpiry l) := of_none rfl
theorem hit (unit : List Byte) : Statement (.hit unit) := of_none rfl
theorem cwuIntervalClose (n : BitVec 16) : Statement (.cwuIntervalClose n) := of_none rfl
theorem deviceReset : Statement .deviceReset := of_none rfl
theorem resetRelease : Statement .resetRelease := of_none rfl

end Sys2Proof.Laws.RoundTrip
end

