-- ==== Sys2Proof/Laws/Units.lean ====
section
/-! SUPPORT. Laws/Units.lean: the check of a link unit. -/
namespace Sys2Proof.Machine

/-- A unit's bytes and its two check bytes. -/
@[simp] theorem length_sealUnit (body : List Byte) : (sealUnit body).length = body.length + 2 := by simp [sealUnit, le16]

/-- A unit's bytes without its check. -/
@[simp] theorem take_sealUnit (body : List Byte) : (sealUnit body).take body.length = body := by simp [sealUnit]

/-- A unit opens to a body exactly when it is the body with its check (R196). -/
theorem openUnit_eq_some {unit body : List Byte} : openUnit unit = some body ↔ unit = sealUnit body := by
  unfold openUnit
  refine ⟨fun h => ?_, ?_⟩
  · dsimp only at h
    split at h
    · next h2 => cases h; exact h2.2
    · cases h
  · rintro rfl
    simp

end Sys2Proof.Machine
end

