-- ==== Sys2Proof/Laws/Zdu.lean ====
section
/-! SUPPORT. Laws/Zdu.lean: what the ZDU's events may change and send, and the claims taken before a REZONE. -/
namespace Sys2Proof.Machine

/-- `t` is `s` with the ZDU's records changed and messages that are no claims sent. -/
def ZduEvent (s t : State) : Prop :=
  ∃ ms, (∀ m ∈ ms, isClaim m = false) ∧ t = { s with zdu := t.zdu, transit := s.transit ++ ms }

variable {s t u : State}

/-- Nothing changed. -/
theorem ZduEvent.refl (s : State) : ZduEvent s s := ⟨[], by simp, by simp⟩

/-- One after the other. -/
theorem ZduEvent.trans (h : ZduEvent s t) (k : ZduEvent t u) : ZduEvent s u := by
  obtain ⟨ms, h1, h2⟩ := h
  obtain ⟨ns, k1, k2⟩ := k
  refine ⟨ms ++ ns, fun m hm => (List.mem_append.1 hm).elim (h1 m) (k1 m), ?_⟩
  rw [k2, h2]
  simp

/-- A change of the ZDU's records. -/
theorem ZduEvent.onZdu (f : Zdu → Zdu) (s : State) : ZduEvent s (onZdu f s) := ⟨[], by simp, by simp [Machine.onZdu]⟩

/-- A change of one zone entry. -/
theorem ZduEvent.setZone (z : Nat) (e : ZoneEntry) (s : State) : ZduEvent s (setZone z e s) := .onZdu _ s

/-- Messages that are no claims. -/
theorem ZduEvent.sendAll {ms : List Instr} (h : ∀ m ∈ ms, isClaim m = false) (s : State) :
    ZduEvent s (sendAll ms s) := ⟨ms, h, rfl⟩

/-- A fold of such changes is one. -/
theorem ZduEvent.foldl {α : Type} (f : State → α → State) (h : ∀ t x, ZduEvent t (f t x)) (xs : List α) (s : State) :
    ZduEvent s (xs.foldl f s) := by
  induction xs generalizing s with
  | nil => exact .refl s
  | cons x xs ih => exact (h s x).trans (ih _)

/-- A condition's edge. -/
theorem ZduEvent.reportEdge (c : CondClass) (was now : Bool) (s : State) : ZduEvent s (reportEdge c was now s) := by
  unfold Machine.reportEdge
  split
  · exact .refl s
  · exact ZduEvent.sendAll (ms := [_]) (by simp [isClaim]) s

/-- Everything an update of effective derates may do. -/
theorem ZduEvent.updateEffective (zs : List Nat) (s : State) : ZduEvent s (updateEffective zs s) := by
  unfold Machine.updateEffective
  split
  · exact .refl s
  · refine ((ZduEvent.foldl (fun t z => storeEffective z t) (fun t z => .setZone z _ t) zs s).trans ?_).trans (ZduEvent.sendAll ?_ _)
    · split
      · exact ZduEvent.sendAll (ms := [_]) (by simp [isClaim]) _
      · exact .refl _
    · intro m hm
      obtain ⟨z, -, rfl⟩ := List.mem_map.1 hm
      rfl

/-- Everything the comparison with the trip count may do. -/
theorem ZduEvent.compareTrip (s : State) : ZduEvent s (compareTrip s) := by
  unfold Machine.compareTrip
  (repeat' split)
  · exact .refl s
  · exact (ZduEvent.onZdu _ s).trans (ZduEvent.sendAll (ms := [_]) (by simp [isClaim]) _)
  · exact .refl s
  · exact .onZdu _ s

/-- Everything the evaluation of the conditions may do. -/
theorem ZduEvent.evalConditions (s : State) : ZduEvent s (evalConditions s) := by
  unfold Machine.evalConditions
  split
  · exact .refl s
  · exact ((ZduEvent.reportEdge _ _ _ s).trans (.reportEdge _ _ _ _)).trans (.onZdu _ _)

/-- Everything a claim may do at the ZDU (R6, R7). -/
theorem ZduEvent.takeClaim (m : Instr) (s : State) : ZduEvent s (takeClaim m s) := by
  have hover : ∀ z e, ZduEvent s (afterOverClaim z (Machine.setZone z e s)) := fun z e =>
    ((ZduEvent.setZone z e s).trans (.updateEffective _ _)).trans ((ZduEvent.compareTrip _).trans (.evalConditions _))
  have hfault : ∀ z e, ZduEvent s (Machine.evalConditions (Machine.setZone z e s)) := fun z e =>
    (ZduEvent.setZone z e s).trans (.evalConditions _)
  unfold Machine.takeClaim
  split
  · unfold takeOverEnter zoneClaim; dsimp only; (repeat' split) <;> first | exact hover _ _ | exact .refl s
  · unfold takeOverLeave zoneClaim; dsimp only; (repeat' split) <;> first | exact hover _ _ | exact .refl s
  · unfold takeFaultEnter zoneClaim; dsimp only; (repeat' split) <;> first | exact hfault _ _ | exact .refl s
  · unfold takeFaultLeave zoneClaim; dsimp only; (repeat' split) <;> first | exact hfault _ _ | exact .refl s
  · unfold takeCrackDerate zoneClaim
    split
    · exact (ZduEvent.setZone _ _ s).trans (.updateEffective _ _)
    · exact .refl s
  · exact .refl s

/-- An event of the ZDU leaves the claims in transit as they were. -/
theorem ZduEvent.claims (h : ZduEvent s t) : t.transit.filter isClaim = s.transit.filter isClaim := by
  obtain ⟨ms, h1, h2⟩ := h
  rw [h2]
  simp only [List.filter_append, List.append_right_eq_self, List.filter_eq_nil_iff]
  exact fun m hm => by simp [h1 m hm]

/-- Where no claim is in transit none is taken. -/
theorem takeClaims_none (h : ∀ m ∈ s.transit, isClaim m = false) : takeClaims s = s := takeSent_none h

/-- The oldest claim in transit is taken first, then the rest. -/
theorem takeClaims_first {pre post : List Instr} {m : Instr} (ht : s.transit = pre ++ m :: post)
    (hp : ∀ x ∈ pre, isClaim x = false) (hm : isClaim m = true) :
    takeClaims s = takeClaims (takeClaim m (arrive m s)) :=
  takeSent_first (fun m _ => (ZduEvent.takeClaim m _).claims) ht hp hm

/-- The state with another SP. -/
def withSp (x : Sp) (s : State) : State := { s with sp := x }

/-- `f` neither reads nor changes SP. -/
def LeavesSp (f : State → State) : Prop := ∀ x s, f (withSp x s) = withSp x (f s)

/-- A fold of such changes is one. -/
theorem leavesSp_foldl {α : Type} (f : State → α → State) (h : ∀ a, LeavesSp (fun s => f s a)) (xs : List α) :
    LeavesSp (fun s => xs.foldl f s) := by
  intro x s
  induction xs generalizing s with
  | nil => rfl
  | cons a as ih =>
    simp only [List.foldl_cons]
    rw [show f (withSp x s) a = withSp x (f s a) from h a x s]
    exact ih _

/-- An update of effective derates leaves SP out. -/
theorem leavesSp_updateEffective (zs : List Nat) : LeavesSp (updateEffective zs) := by
  intro x s
  unfold updateEffective
  have h1 : rezoneIsOpen (withSp x s) = rezoneIsOpen s := rfl
  rw [h1]
  split
  · rfl
  · have := leavesSp_foldl (fun t z => storeEffective z t) (fun a x s => rfl) zs x s
    dsimp only at this ⊢
    rw [this]
    have h2 : derateChanged (withSp x s) = derateChanged s := rfl
    have h3 : derateFell (withSp x s) = derateFell s := rfl
    rw [h2, h3]
    split <;> rfl

/-- The comparison with the trip count leaves SP out. -/
theorem leavesSp_compareTrip : LeavesSp compareTrip := by
  intro x s
  unfold compareTrip
  have h1 : rezoneIsOpen (withSp x s) = rezoneIsOpen s := rfl
  have h2 : totalOver (withSp x s) = totalOver s := rfl
  rw [h1, h2]
  show (if rezoneIsOpen s || s.zdu.tripCount == 0 then _
    else if s.zdu.tripCount ≤ totalOver s then if s.zdu.tripArmed then _ else _ else _) = _
  (repeat' split) <;> rfl

/-- The evaluation of the conditions leaves SP out. -/
theorem leavesSp_evalConditions : LeavesSp evalConditions := by
  intro x s
  unfold evalConditions
  have h1 : rezoneIsOpen (withSp x s) = rezoneIsOpen s := rfl
  have h2 : totalOver (withSp x s) = totalOver s := rfl
  have h3 : totalFault (withSp x s) = totalFault s := rfl
  rw [h1, h2, h3]
  split
  · rfl
  · have : ∀ c a b (s : State), reportEdge c a b (withSp x s) = withSp x (reportEdge c a b s) := by
      intro c a b s; unfold reportEdge; split <;> rfl
    dsimp only
    show onZdu _ (reportEdge _ s.zdu.anyFault _ (reportEdge _ s.zdu.anyOver _ (withSp x s))) = _
    rw [this, this]; rfl

/-- A claim leaves SP out. -/
theorem leavesSp_takeClaim (m : Instr) : LeavesSp (takeClaim m) := by
  intro x s
  have hov : ∀ z e s, afterOverClaim z (setZone z e (withSp x s)) = withSp x (afterOverClaim z (setZone z e s)) := by
    intro z e s
    unfold afterOverClaim
    show evalConditions (compareTrip (updateEffective [z] (withSp x (setZone z e s)))) = _
    rw [leavesSp_updateEffective, leavesSp_compareTrip, leavesSp_evalConditions]
  unfold takeClaim
  split
  · unfold takeOverEnter zoneClaim; dsimp only
    show (if _ < zoneCount s then if (zoneEntry _ s).overCount < 512 then _ else _ else _) = _
    (repeat' split) <;> first | exact hov _ _ _ | rfl
  · unfold takeOverLeave zoneClaim; dsimp only
    show (if _ < zoneCount s then if 0 < (zoneEntry _ s).overCount then _ else _ else _) = _
    (repeat' split) <;> first | exact hov _ _ _ | rfl
  · unfold takeFaultEnter zoneClaim; dsimp only
    show (if _ < zoneCount s then if (zoneEntry _ s).faultCount < 512 then _ else _ else _) = _
    (repeat' split) <;> first | exact leavesSp_evalConditions x (setZone _ _ s) | rfl
  · unfold takeFaultLeave zoneClaim; dsimp only
    show (if _ < zoneCount s then if 0 < (zoneEntry _ s).faultCount then _ else _ else _) = _
    (repeat' split) <;> first | exact leavesSp_evalConditions x (setZone _ _ s) | rfl
  · unfold takeCrackDerate zoneClaim; dsimp only
    show (if _ < zoneCount s then _ else _) = _
    split
    · exact leavesSp_updateEffective _ x (setZone _ _ s)
    · rfl
  · rfl

/-- The claims taken before a REZONE leave SP out. -/
theorem leavesSp_takeClaims : LeavesSp takeClaims := by
  intro x s
  exact leavesSp_foldl (fun t m => takeClaim m (arrive m t)) (fun m x s => leavesSp_takeClaim m x (arrive m s)) _ x s

/-- The claims taken change the ZDU and what is in transit, nothing else. -/
theorem takeClaims_event (s : State) :
    takeClaims s = { s with zdu := (takeClaims s).zdu, transit := (takeClaims s).transit } := by
  have h : ∃ u ms, takeClaims s = { s with zdu := u, transit := ms } :=
    takeSent_keeps (P := fun t => ∃ u ms, t = { s with zdu := u, transit := ms })
      (fun m _ _ ⟨_, _, h⟩ => by
        subst h
        obtain ⟨ns, -, e⟩ := ZduEvent.takeClaim m (arrive m _)
        exact ⟨_, _, e⟩) ⟨_, _, rfl⟩
  obtain ⟨u, ms, h⟩ := h
  rw [h]

end Sys2Proof.Machine
end

