-- ==== Sys2Proof/Tests/Slice0.lean ====
section
/-! SUPPORT. Tests/Slice0.lean: well-formedness of ill-formed commands, single steps and functions on the numbers of the
spec's worked examples, and for each obligation states and operands that meet its hypotheses, clause by clause. -/
namespace Sys2Proof.Tests
open Sys2Proof Sys2Proof.Machine

set_option Elab.async false

/-! ### Ill-formed commands are refused by the check -/

theorem test_wf_unknown : (Instr.unknown 0x23 [0]).wf = false ∧ (Instr.unknown 0x7F [0]).wf = true := by decide
theorem test_wf_condition : (Instr.conditionEdgeReport .linkLost .entry).wf = false := by decide
theorem test_wf_event : (Instr.attentionEventReport .portOverrun).wf = false := by decide
theorem test_wf_zone : [Instr.overEnter 32, .overLeave 32, .faultEnter 32, .faultLeave 32, .derateFall 32,
    .crackDerate 32 100 0].map Instr.wf = [false, false, false, false, false, false] := by decide
theorem test_wf_crackDerate : [Instr.crackDerate 31 101 0, .crackDerate 31 100 49, .crackDerate 31 100 48].map Instr.wf
    = [false, false, true] := by decide
theorem test_wf_setCommand : [Instr.setCommand 0 32001 10, .setCommand 0 (-32001) 10, .setCommand 0 0 30001,
    .setCommand 0 32000 30000].map Instr.wf = [false, false, false, true] := by decide

/-! ### Frames and units -/

/-- 11.1: the code byte names the request, the length byte and parameters follow. -/
theorem test_frames : decodeFrame [0x23, 0] = some (.halt [0]) ∧ decodeFrame [0x28, 1, 90] = some (.setScale [1, 90]) ∧
    decodeFrame [0x65, 2, 17, 0] = some (.shunt [2, 17, 0]) ∧ decodeFrame [0x7F, 0] = some (.unknown 0x7F [0]) ∧
    decodeFrame [0, 9, 9] = some (.fetch 2) ∧ decodeFrame [] = none := by decide

/-- The table gives no row bits, so no word spells a command. -/
theorem test_words : decodeTableWord 8 0x23 = none ∧ decodeTableWord 0 0 = none := by decide

/-- R196: the check of a unit is the sum of its bytes, and a unit that fails it is no unit. -/
theorem test_units : sealUnit [0x02, 7] = [0x02, 7, 9, 0] ∧ openUnit [0x02, 7, 9, 0] = some [0x02, 7] ∧
    openUnit [0x02, 7, 8, 0] = none := by decide

/-! ### The worked examples -/

/-- Section 4.7: zone 1 at scale 90 and derate 80. -/
theorem test_target : scaledForce 1800 90 80 = 1296 ∧ scaledForce 2400 89 80 = 1708 ∧ scaledForce (-1801) 90 80 = -1296 := by
  decide

/-- Section 3.4: a line of six with one held at each end, envelope 1800, 2400, 1200, bed 300. -/
def bank : Bank :=
  { len := 3, cells := (((Table.fill 16 0).set 0 1800).set 1 2400).set 2 1200, bed := 300, lead := 1, trail := 1
    endCount := 2, ends := ((Table.fill 14 0).set 0 500).set 1 400, ramp := 1500, dwell := 3000 }

theorem test_mapping : lastPosition bank 6 = 5 ∧
    (List.range 6).map (fun i => patternForce bank 6 .forward 2 i) = [500, 1200, 2400, 1800, 300, 400] ∧
    (List.range 6).map (fun i => patternForce bank 6 .reverse 2 i) = [500, 300, 1800, 2400, 1200, 400] := by decide

/-- Section 6.10: set A (upper 800, lower -400, percent 80, hysteresis 50). -/
def setA : LimitSet := { upper := 800, lower := -400, alertPct := 80, hyst := 50, declare := 3 }

theorem test_bands : setA.centre = 200 ∧ setA.upperAlert = 680 ∧ setA.lowerAlert = -280 ∧ setA.inClear 750 = true ∧
    setA.inClear 751 = false ∧ setA.inQuiet 630 = true ∧ setA.inQuiet 631 = false := by decide

theorem test_judge : (judge true 850 { state := .alert, overRun := 2, setA := setA }).state = .over ∧
    (judge true 850 { state := .alert, overRun := 1, setA := setA }).overRun = 2 ∧
    (judge true 660 { state := .alert, setA := setA }).state = .alert ∧
    (judge true 660 { state := .quiet, setA := setA }).state = .quiet ∧
    (judge true 700 { state := .over, clearRun := 2, setA := setA }).state = .alert := by decide

/-- Section 7.9: sensors at 10000 and 14000, speed 1024, times 400 apart. -/
theorem test_locate : locate 10000 14000 1024 100400 100000 = 12800 ∧ windowOf 10000 14000 1024 20 = 1020 := by decide

/-- R137, R136: the pending list. -/
theorem test_prune : prune 1020 2000 [⟨0, 979, 40⟩, ⟨1, 980, 40⟩] = [⟨1, 980, 40⟩] := by decide

/-! ### States -/

/-- The state after reset. -/
abbrev base : State := State.reset

/-- A request arriving now is taken. -/
abbrev Free (s : State) : Prop := s.resetHeld = false ∧ slotWorking s = false

theorem free_iff (s : State) : Free s ↔ PortFree s := Iff.rfl

/-- With the sequencer in a state. -/
def inSeq (q : SeqState) (s : State) : State := setSeq q s

/-- Any sequencer state stands in some state that takes a request, with any line, sets and settings of LSQ. -/
theorem witness_anySequencer (q : Lsq) : ∃ s, PortFree s ∧ s.lsq = q := ⟨{ base with lsq := q }, ⟨rfl, rfl⟩, rfl⟩

/-- Any actuator record, under any sequencer, in a state that takes a request. -/
theorem witness_anyActuator (a : Fin Config.actuators) (r : Actuator) (q : Lsq) :
    ∃ s, PortFree s ∧ act a s = r ∧ s.lsq = q :=
  ⟨setAct a r { base with lsq := q }, ⟨rfl, rfl⟩, by simp [act, setAct, onAch, Table.get, Table.set], rfl⟩

/-- Any gauge record, beside any scanner link, ZERO and SHUNT. -/
theorem witness_anyGauge (i : Fin Config.gauges) (g : Gauge) (l : Table ScannerLink Config.scanners) (z : Option ZeroOp)
    (o : Option ShuntOp) : ∃ s, PortFree s ∧ gauge i s = g ∧ s.gsc.links = l ∧ s.gsc.zeroOp = z ∧ s.gsc.shuntOp = o :=
  ⟨setGauge i g { base with gsc := { base.gsc with links := l, zeroOp := z, shuntOp := o } }, ⟨rfl, rfl⟩,
    by simp [Machine.gauge, setGauge, onGsc, Table.get, Table.set], rfl, rfl, rfl⟩

/-- Any crack record and any loop record. -/
theorem witness_anyCrackAndLoop (i : Fin Config.cracks) (r : Crack) (l : Fin Config.loops) (w : Loop) :
    ∃ s, PortFree s ∧ crack i s = r ∧ loop l s = w :=
  ⟨setLoop l w (setCrack i r base), ⟨rfl, rfl⟩, by simp [crack, setCrack, setLoop, onCwu, Table.get, Table.set],
    by simp [loop, setCrack, setLoop, onCwu, Table.get, Table.set]⟩

/-! ### Each obligation's hypotheses are met -/

theorem witness_StepTakesTheFrontCommand : (base.pending = [] ∧ base.transit = []) ∧
    (send .strainTrip base).pending = [] ∧ (send .strainTrip base).transit = .strainTrip :: [] := by decide +kernel

theorem witness_ResetLine : ({ base with resetHeld := true } : State).resetHeld = true ∧ base.resetHeld = false ∧
    (Instr.halt [0] ≠ .deviceReset ∧ Instr.halt [0] ≠ .resetRelease) ∧ ∀ l b, Instr.halt [0] ≠ .loopLineChange l b := by
  refine ⟨rfl, rfl, ⟨by decide, by decide⟩, fun l b h => ?_⟩
  cases h

theorem witness_AnswerSlot : base.resetHeld = false ∧ base.sp.slot = .empty ∧ base.sp.answer = none ∧
    (occupySlot 0x23 base).sp.slot = .working 0x23 ∧
    (∃ a, (takeAnswer (postAnswer 0x23 (doneWith []) base)).sp.slot = .ready a) ∧
    (∃ a, (postAnswer 0x23 (doneWith []) base).sp.answer = some a ∧ a.request ≠ 0x01) ∧
    (∃ a, (postAnswer 0x01 (refusedFor .format) base).sp.answer = some a ∧ a.reply.code ≠ .done) ∧
    (∃ a, (postAnswer 0x01 (doneWith []) base).sp.answer = some a ∧ a.request = 0x01 ∧ a.reply.code = .done) ∧
    encodeFrame (.halt [0]) = some (0x23 :: [0]) ∧ (0x23 : Byte) ≠ 0x00 ∧
    (occupySlot 0x11 base).resetHeld = false ∧ slotWorking (occupySlot 0x11 base) = true :=
  ⟨rfl, rfl, rfl, rfl, ⟨_, rfl⟩, ⟨_, rfl, by decide⟩, ⟨_, rfl, by decide⟩, ⟨_, rfl, rfl, rfl⟩, rfl, by decide, rfl, rfl⟩

theorem witness_FramesRefusedByForm : Free base ∧ frameParams [] = none ∧ frameParams [1] = none ∧
    frameParams [65] = none ∧ encodeFrame (.halt [1]) = some (0x23 :: [1]) ∧ frameParams [0] = some [] ∧
    (encodeFrame (.halt [1, 9]) = some (0x23 :: [1, 9]) ∧ frameParams [1, 9] = some [9] ∧
      lengthRight 0x23 [9] = false ∧ (Instr.halt [1, 9]).wf = true ∧ requestCodes.contains 0x23 = true) ∧
    lengthRight 0x30 [] = false ∧ lengthRight 0x30 [0] = true ∧ lengthRight 0x30 [2, 0] = false := by decide +kernel

/-- STATUS has been taken: four owners are asked. -/
def statusAsked : State := asked { op := .status {}, place := [], waiting := [.lsq, .zdu, .ach, .gsc] } (atOwner 0x01 base)

theorem witness_StatusAnswersTheState : Free base ∧ statusAsked.resetHeld = false ∧
    statusAsked.sp.gather = some { op := .status {}, place := [], waiting := [.lsq, .zdu, .ach, .gsc] } ∧
    Block.zdu ∈ [Block.lsq, .zdu, .ach, .gsc] ∧ (∀ g, statusAsked.sp.gather = some g → Block.cwu ∉ g.waiting) ∧
    base.sp.gather = none := by
  refine ⟨⟨rfl, rfl⟩, rfl, rfl, by decide, fun g h => ?_, rfl⟩
  cases h; decide

/-- One event of an owner after another, as answered by `exec`. -/
def runAll (cs : List Instr) (s : State) : State := cs.foldl (fun s c =>
  match exec c s with
  | .next t => t
  | .fault _ => s
  | .refused _ => s) s

/-- The STATUS answer formed from owners' events in this order, with a strain trip among them: sequencer state, bytes. -/
def statusWith (cs : List Instr) : Option (Option Byte × Nat) :=
  (runAll cs (inSeq (.running .ramp) statusAsked)).sp.answer.map fun a => (a.reply.data.head?, a.reply.data.length)

/-- R174: an event between two owners' reads shows in the later one's group alone. -/
theorem test_statusMixes :
    statusWith [.answerToSlot (some .gsc), .strainTrip, .answerToSlot (some .lsq), .answerToSlot (some .ach),
      .answerToSlot (some .zdu)] = some (some 4, 52) ∧
    statusWith [.answerToSlot (some .lsq), .strainTrip, .answerToSlot (some .gsc), .answerToSlot (some .ach),
      .answerToSlot (some .zdu)] = some (some 3, 52) ∧
    statusWith [.answerToSlot (some .lsq), .answerToSlot (some .lsq), .answerToSlot (some .gsc),
      .answerToSlot (some .ach)] = none := by decide +kernel

/-- A report of the ZDU's in transit, a message that is none before it. -/
def reported : State := sendAll [.strainTrip, .attentionEventReport .opDone] statusAsked

theorem witness_StatusAnswersTheState_reports : (∀ m ∈ base.transit, isReportOf .zdu m = false) ∧
    reported.resetHeld = false ∧
    reported.transit = statusAsked.transit ++ [.strainTrip] ++ Instr.attentionEventReport .opDone :: [] ∧
    (∀ x ∈ statusAsked.transit ++ [.strainTrip], isReportOf .zdu x = false) ∧
    isReportOf .zdu (.attentionEventReport .opDone) = true ∧ isReportOf .gsc (.attentionEventReport .opDone) = true ∧
    isReportOf .lsq (.attentionEventReport .opDone) = false ∧ isReportOf .gsc (.linkReport (.scanner 3) true) = true ∧
    isReportOf .ach (.linkReport (.drive 7) false) = true := by decide +kernel

/-- R174: the REZONE that completes before the ZDU's read is shown closed with its OP_DONE latch set, though the report is
still in transit when the ZDU is read; completed after that read it is shown open. Bytes 21 and 45 of the answer. -/
theorem test_statusShowsTheLatchOfWhatItReads :
    let last := onZdu (fun z => { z with rezone := some { gscDone := true, cwuDone := true } }) statusAsked
    let shown := fun cs : List Instr => (runAll cs last).sp.answer.map fun a => (a.reply.data[21]?, a.reply.data[45]?)
    let zdu := Instr.answerToSlot (some .zdu)
    let rest := [Instr.answerToSlot (some .lsq), .answerToSlot (some .ach), .answerToSlot (some .gsc)]
    shown ([.sweepDone .ach, zdu] ++ rest) = some (some 0, some 8) ∧
    shown ([zdu, .sweepDone .ach] ++ rest) = some (some 1, some 8) ∧
    shown ([zdu] ++ rest) = some (some 1, some 0) := by decide +kernel

theorem witness_ReadAndSetAttention : Free base ∧ (0x0F : Byte).toNat < 16 ∧ 16 ≤ (0x10 : Byte).toNat := by
  decide +kernel

/-- SP with a lost link and a condition standing. -/
def lostSp : Sp := applyLinkReport (.drive 0) true Sp.reset

theorem witness_ReportsReachThePort : base.resetHeld = false ∧
    (base.sp.condValues.getLsbD 1 = (Edge.exit == .entry)) ∧ base.sp.condValues.getLsbD 1 = false ∧
    (applyEdge .anyOver .entry base.sp).condValues.getLsbD 1 = true ∧
    (base.sp.lostLinks = 0 ∧ putBit base.sp.lostLinks 0 true ≠ 0) ∧
    (lostSp.lostLinks ≠ 0 ∧ putBit lostSp.lostLinks 0 false = 0) ∧
    (lostSp.lostLinks = 0 ↔ putBit lostSp.lostLinks 1 true = 0) := by decide +kernel

theorem witness_RestartOfThePart : (Free base ∧ base.lsq.seq = .idle ∧ base.zdu.rezone = none) ∧
    (inSeq .ready base).lsq.seq ≠ .idle ∧ (onZdu (fun z => { z with rezone := some {} }) base).zdu.rezone.isSome = true ∧
    (beginRestart base).sp.restartDone = some [] ∧ Block.gsc ∉ ([] : List Block) ∧
    (onSp (fun p => { p with restartDone := some [.gsc, .cwu, .ach, .lsq] }) base).sp.restartDone =
      some [.gsc, .cwu, .ach, .lsq] ∧ Block.zdu ∉ [Block.gsc, .cwu, .ach, .lsq] := by decide +kernel

theorem witness_AttentionLineStaysTrue : AttentionTrue base ∧ step base = .next base :=
  ⟨⟨by decide +kernel, fun _ => rfl⟩, rfl⟩

/-- A window over the first gauge records. -/
def window : Window :=
  { table := .gauges, firstRec := 0, lastRec := 2, firstField := 10, lastField := 14, order := .record, mask := 0x1F,
    ptrRec := 0, ptrField := 10 }

theorem witness_SetWindowAndAmend : Free base ∧ tableOf 0 = some .gauges ∧ scanOrderOf 1 = some .field ∧
    (u16 0 0 ≤ u16 255 1 ∧ u16 255 1 < WTable.gauges.records ∧ (34 : Byte).toNat < WTable.gauges.fields ∧
      (34 : Byte).toNat - (3 : Byte).toNat ≤ 31) ∧
    tableOf 9 = none ∧ scanOrderOf 2 = none ∧ ¬ u16 0 2 < WTable.gauges.records ∧ base.sp.window = none ∧
    Free (setTheWindow window base) ∧ (setTheWindow window base).sp.window ≠ none := by decide +kernel

/-- A window over trip count and rest ramp, the pointer on the first. -/
def settingsWindow : Window :=
  { table := .settings, firstRec := 0, lastRec := 0, firstField := 0, lastField := 4, order := .record, mask := 0x11,
    ptrRec := 0, ptrField := 0 }

/-- A READ DATA of both cells has been taken. -/
def readAsked : State :=
  asked { op := .read [{ field := 0 }, { field := 4 }], place := [], waiting := [.zdu, .lsq] } (atOwner 0x11 base)

theorem witness_ReadDataAnswersTheCells : Free (setTheWindow window base) ∧
    (setTheWindow window base).sp.window = some window ∧ window.table ≠ .settings ∧ base.sp.window = none ∧
    (Free (setTheWindow settingsWindow base) ∧ (setTheWindow settingsWindow base).sp.window = some settingsWindow) ∧
    (1 ≤ (1 : Byte).toNat ∧ (30 : Byte).toNat ≤ 30) ∧ (0 : Byte).toNat = 0 ∧ 30 < (31 : Byte).toNat ∧
    (readAsked.resetHeld = false ∧ (readAsked.sp.gather.map fun g => g.waiting) = some [.zdu, .lsq]) ∧
    ((List.range 3).flatMap fun r => [10, 11, 12, 13, 14].map fun f => (r, f))[14]? = some (2, 14) ∧
    ([10, 11, 12, 13, 14].flatMap fun f => (List.range 3).map fun r => (r, f))[1]? = some (1, 10) := by decide +kernel

/-- R185: the two orders, and the wrap at the end. -/
theorem test_sequence : window.cellsFrom 6 = [(0, 10), (0, 11), (0, 12), (0, 13), (0, 14), (1, 10)] ∧
    { window with order := .field }.cellsFrom 4 = [(0, 10), (1, 10), (2, 10), (0, 11)] ∧
    ({ window with ptrRec := 2, ptrField := 14 }.advanceBy 1) = window := by decide +kernel

/-- R186: a read of two owners' settings with a trip count write between shows the old value of the one, and with the write
before its owner's event the new value. -/
theorem test_settingsMix :
    (let t := runAll [.answerToSlot (some .zdu), .answerToSlot (some .lsq)] readAsked
     t.sp.answer.map fun a => a.reply.data) = some ([0, 0, 0, 0] ++ [4, 0, 0, 0] ++ [0xD0, 7, 0, 0]) ∧
    (let t := runAll [.answerToSlot (some .lsq)] readAsked
     (runAll [.answerToSlot (some .zdu)] (writeTripCount 9 t)).sp.answer.map fun a => a.reply.data) =
      some ([0, 0, 0, 0] ++ [9, 0, 0, 0] ++ [0xD0, 7, 0, 0]) := by decide +kernel

theorem witness_LazyTransferOnReads : (∀ c ∈ [(0, 24), (511, 33)], WTable.gauges.isInterval c.2 = false) ∧ Free base ∧
    relationOf 1 ≠ none ∧ (∀ r, relationOf 1 = some r → r ≠ .none) ∧ 25 ≤ (25 : Byte).toNat ∧ (32 : Byte).toNat ≤ 32 ∧
    (127 : Byte).toNat < 128 ∧ (31 : Byte).toNat < 32 ∧ u16 255 1 < 512 := by
  refine ⟨by decide, by decide +kernel, by decide, fun r h => ?_, by decide, by decide, by decide, by decide, by decide⟩
  rintro rfl; exact absurd h (by decide)

/-- R121: of the fields of GAUGES 25 to 32 touch; a read of a live field under a new interval answers the started live
interval, and of the held one after it the interval moved. -/
theorem test_readTouches :
    ([24, 25, 32, 33].map WTable.gauges.isInterval = [false, true, true, false]) ∧
    (let s := setGauge 0 { state := .quiet, live := { exceed := 3, number := 7 } } base
     let x := readCells .gauges [(0, 25), (0, 29), (0, 32)] s
     (x.2.map CellRead.value, (gauge 0 x.1).held.exceed)) = ([0, 3, 7], 3) := by decide +kernel

/-- A WRITE DATA of trip count 1 and rest ramp 500 has been taken, one zone over. -/
def writeAsked : State :=
  asked { op := .write [{ field := 0, value := 1 }, { field := 4, value := 500 }], place := [0, 0, 0, 0],
          waiting := [.zdu, .lsq] }
    (atOwner 0x12 (setZone 0 { overCount := 1 } base))

theorem witness_WriteDataOffersTheValues : Free (setTheWindow window base) ∧
    (setTheWindow window base).sp.window = some window ∧ window.table ≠ .settings ∧
    (setTheWindow settingsWindow base).sp.window = some settingsWindow ∧
    (setTheWindow { window with table := .cracks, firstField := 9, lastField := 9, ptrField := 9 } base).sp.window =
      some { window with table := .cracks, firstField := 9, lastField := 9, ptrField := 9 } ∧
    base.sp.window = none ∧ ([1, 0, 0, 0] : List Byte) ≠ [] ∧ ([1, 0, 0, 0] : List Byte).length % 4 = 0 ∧
    (List.replicate 64 (0 : Byte)).length ≤ 64 ∧ (writeCell .gauges 0 10 5 base).2 = some .vacant ∧
    (writeAsked.resetHeld = false ∧ (writeAsked.sp.gather.map fun g => g.waiting) = some [.zdu, .lsq]) := by decide +kernel

/-- R189: the trip of a trip count write reaches LSQ before its rest ramp claim does. -/
theorem test_tripBeforeTheRestRamp :
    (let t := runAll [.answerToSlot (some .zdu), .strainTrip] { writeAsked with lsq := { base.lsq with seq := .running .ramp } }
     (t.lsq.seq, t.lsq.restRamp, t.sp.gather.map fun g => g.waiting)) =
      (.haltingFinish .ramp, 2000, some [.lsq]) ∧
    (let t := runAll [.answerToSlot (some .zdu), .strainTrip, .answerToSlot (some .lsq)] writeAsked
     (t.lsq.restRamp, t.sp.answer.map fun a => a.reply.data)) = (500, some [2, 0, 0, 0, 0, 0, 0]) := by decide +kernel

theorem witness_WindowFieldsRead : (gauge 511 base).state = .vacant ∧
    (gauge 511 (setGauge 511 { state := .over } base)).state ≠ .vacant ∧ (crack 47 base).state = .vacant ∧
    (crack 47 (setCrack 47 { state := .suspect } base)).state ≠ .vacant ∧ 0 < zoneCount base ∧ ¬ 1 < zoneCount base ∧
    (loop 23 base).state = .unused ∧ (sensor 15 base).enabled = false := by decide +kernel

theorem witness_FindAnswersTheFirstMatch : Free base ∧ tableOf 0 = some .gauges ∧ relationOf 0 = some .none ∧
    WTable.gauges.states = some 7 ∧ (127 : Byte).toNat < 2 ^ 7 ∧ u16 255 1 < WTable.gauges.records ∧
    WTable.gauges.isInterval 24 = false ∧ tableOf 9 = none ∧ relationOf 9 = none ∧ tableOf 6 = some .standbyBank ∧
    WTable.standbyBank.states = none ∧
    2 ^ 7 ≤ (128 : Byte).toNat ∧ WTable.gauges.records ≤ u16 0 2 := by decide +kernel

theorem witness_StationDecode : (onZdu (fun z => { z with boundaries := [12000, 30000, 51500] }) base).zdu.boundaries =
    [12000, 30000, 51500] ∧ BoundariesTrue base ∧ step base = .next base := ⟨rfl, ⟨by decide, by decide, .nil⟩, rfl⟩

/-- A REZONE stands open. -/
def rezoning : State := onZdu (fun z => { z with rezone := some {} }) base

theorem witness_UpdatedDeratesAreTheLeastOfThree : ([0, 31] : List Nat).Nodup ∧ (∀ z ∈ [0, 31], z < 32) ∧
    rezoning.zdu.rezone.isSome = true ∧ base.zdu.rezone = none := by decide +kernel

theorem witness_ZoneClaims : base.resetHeld = false ∧ 0 < zoneCount base ∧ (zoneEntry 0 base).overCount < 512 ∧
    zoneCount base ≤ 1 ∧ 512 ≤ (zoneEntry 0 (setZone 0 { overCount := 512, faultCount := 512 } base)).overCount ∧
    512 ≤ (zoneEntry 0 (setZone 0 { overCount := 512, faultCount := 512 } base)).faultCount ∧
    (zoneEntry 0 base).overCount = 0 ∧ (zoneEntry 0 base).faultCount = 0 := by decide +kernel

theorem witness_CrackDerateAndLoadMask : base.resetHeld = false ∧ zoneCount base ≤ 31 ∧ 0 < zoneCount base ∧
    rezoning.zdu.rezone.isSome = true ∧ base.zdu.rezone = none ∧ min 80 (min 100 100) < (zoneEntry 0 base).effective ∧
    (zoneEntry 0 (setZone 0 { effective := 80 } base)).effective < min 100 (min 100 100) := by decide +kernel

theorem witness_StrainTripAndConditions : base.zdu.rezone = none ∧ base.zdu.tripArmed = true ∧
    rezoning.zdu.rezone.isSome = true ∧ totalOver base < base.zdu.tripCount ∧
    base.zdu.tripCount ≤ totalOver (setZone 0 { overCount := 4 } base) ∧ (64 : Word).toNat ≤ 64 ∧
    64 < (65 : Word).toNat := by decide +kernel

theorem witness_ManualDerates : Free base ∧ zoneCount base ≤ 32 ∧ zoneCount base ≤ 1 ∧ 0 < zoneCount base ∧
    100 < (101 : Word).toNat ∧ (100 : Word).toNat ≤ 100 ∧ (0 : Byte) ≠ 0xFF ∧ (1 : Byte) ≠ 0xFF ∧
    zoneCount base ≤ (1 : Byte).toNat := by decide +kernel

/-- Parameters of a REZONE of two zones at 20000. -/
def rezoneRest : List Byte := le16 20000

theorem witness_RezoneIsTaken : Free base ∧ rezoneRest.length = 2 * ((2 : Byte).toNat - 1) ∧
    (∀ b ∈ stationsOf rezoneRest, 1 ≤ b ∧ b ≤ 65000) ∧ (stationsOf rezoneRest).Pairwise (· < ·) ∧ base.lsq.seq = .idle ∧
    base.zdu.rezone = none ∧ rezoning.zdu.rezone.isSome = true ∧ (inSeq .arming base).lsq.seq ≠ .idle ∧
    rezoneRest.length ≠ 2 * ((3 : Byte).toNat - 1) ∧ ¬ (33 : Byte).toNat ≤ 32 := by decide +kernel

/-- A claim of zone 0 in transit, a message that is none before it. -/
def claimed : State := sendAll [.strainTrip, .overEnter 0] base

theorem witness_RezoneIsTaken_claims : (∀ m ∈ base.transit, isClaim m = false) ∧ claimed.resetHeld = false ∧
    claimed.transit = [.strainTrip] ++ Instr.overEnter 0 :: [] ∧ (∀ x ∈ [Instr.strainTrip], isClaim x = false) ∧
    isClaim (.overEnter 0) = true := by decide +kernel

/-- R85: a claim in transit when a REZONE is taken is counted before it, so one OVER gauge counts once after the sweep:
its late arrival finds nothing more to count. -/
theorem test_claimBeforeRezone :
    (let t := runAll [.rezone ([3, 2] ++ rezoneRest)] claimed
     (t.transit.contains (.overEnter 0), (zoneEntry 0 t).overCount, (zoneEntry 0 t).effective, t.zdu.rezone)) =
      (false, 0, 70, some {}) := by decide +kernel

theorem witness_RezoneCompletes : base.zdu.rezone = none ∧ rezoning.zdu.rezone = some {} ∧
    (onZdu (fun z => { z with rezone := some { sweepCount := 600, gscDone := true, cwuDone := true } }) base).zdu.rezone =
      some { sweepCount := 600, gscDone := true, cwuDone := true } := by decide +kernel

theorem witness_OwnersSweepTheirRecords : base.resetHeld = false ∧
    (onAch (fun h => { h with sweep := .at 7 }) base).ach.sweep = .at 7 ∧
    (onGsc (fun u => { u with sweep := .at 511 }) base).gsc.sweep = .at 511 ∧
    (onCwu (fun w => { w with sweep := .at 23 }) base).cwu.sweep = .at 23 ∧
    (onCwu (fun w => { w with sweep := .at 24 }) base).cwu.sweep = .at 24 ∧
    (onCwu (fun w => { w with sweep := .at 40 }) base).cwu.sweep = .at 40 := by decide +kernel

theorem witness_EffectiveDeratesStayTheLeast : DeratesTrue base ∧ step base = .next base := by
  refine ⟨fun _ z hz => ?_, rfl⟩
  have : z = 0 := by simpa [zoneCount, State.reset, Zdu.reset] using hz
  subst this; decide

/-- The actuators' clauses: each state, link and free wait a clause names, by the boundary values of its numbers. -/
theorem witness_SetDriveCommand (c : ActCause) : ∃ s t u v : State, (s.resetHeld = false ∧ t.resetHeld = false ∧
    u.resetHeld = false ∧ v.resetHeld = false) ∧ ((act 0 s).state = .standby ∧ (act 0 s).link = .live) ∧
    ((act 0 t).state = .holding ∧ (act 0 t).freeWait = false) ∧ (act 0 u).state = .fault c ∧
    (act 0 v).state = .driven ∧ (act 0 v).freeWait = true :=
  ⟨setAct 0 { state := .standby, link := .live } base, setAct 0 { state := .holding } base,
    setAct 0 { state := .fault c } base, setAct 0 { state := .driven, freeWait := true } base, ⟨rfl, rfl, rfl, rfl⟩,
    ⟨rfl, rfl⟩, ⟨rfl, rfl⟩, rfl, rfl, rfl⟩

theorem witness_HoldAndFreeDriveCommands (st : ActState) (w : Bool) (l : LinkState) : ∃ s, PortFree s ∧
    (act 7 s).state = st ∧ (act 7 s).freeWait = w ∧ (act 7 s).link = l :=
  ⟨setAct 7 { state := st, freeWait := w, link := l } base, ⟨rfl, rfl⟩, rfl, rfl, rfl⟩

/-- A REPORT of force 5, stroke -3, echo 9, status SETTLED. -/
def goodUnit : List Byte := sealUnit [0x81, 9, 1, 5, 0, 0xFD, 0xFF]

theorem witness_ReportJudgedWhileDriven :
    parseReport goodUnit = some { echo := 9, status := .settled, force := 5, stroke := -3 } ∧
    parseReport (sealUnit [0x81, 9, 4, 0, 0, 0, 0]) = some { echo := 9, status := .cardFault, force := 0, stroke := 0 } ∧
    parseReport (sealUnit [0x81, 9, 0, 0, 0x80, 1, 0x7D]) =
      some { echo := 9, status := .ramping, force := -32768, stroke := 32001 } := by decide +kernel

/-- Actuator 3 DRIVEN on its link, its timers running. -/
def driven (l : LinkState) : State :=
  setAct 3 { state := .driven, link := l, reportTimer := some 20, settleTimer := some 3000 } base

/-- A REPORT of actuator 3 with this status code, force and stroke 0. -/
def reportOf (echo status : Byte) : Instr := .report 3 (sealUnit [0x81, echo, status, 0, 0, 0, 0])

/-- The last tag after some commands, as many units having been sent, and whether the hold is owed. -/
def holdsAfter (cs : List Instr) (s : State) : Tag × Nat × Bool :=
  let t := runAll cs s
  ((act 3 t).lastTag, t.sent.length, (act 3 t).holdOwed)

/-- R37: an actuator that was sent its hold at fault entry gets none when its link returns; one faulted by the link's loss
gets the one it is owed, once, and none where the returning report is HOLDING; a FAULT actuator whose free wait the loss
ended is judged so too (log 13). -/
theorem test_lateHold :
    (holdsAfter [.settleTimerExpiry 3] (driven .live) = (1, 1, false) ∧
      holdsAfter [.settleTimerExpiry 3, .reportTimerExpiry 3, reportOf 0 0] (driven .live) = (1, 1, false)) ∧
    (holdsAfter [.reportTimerExpiry 3] (driven .live) = (0, 0, true) ∧
      holdsAfter [.reportTimerExpiry 3, reportOf 0 0] (driven .live) = (1, 1, false) ∧
      holdsAfter [.reportTimerExpiry 3, reportOf 0 0, .reportTimerExpiry 3, reportOf 0 0] (driven .live) = (1, 1, false) ∧
      holdsAfter [.reportTimerExpiry 3, reportOf 0 2, reportOf 0 0] (driven .live) = (0, 0, false)) ∧
    holdsAfter [.setCommand 3 0 10, reportOf 0 4] (setAct 3 { state := .standby } base) = (1, 1, false) ∧
    holdsAfter [.settleTimerExpiry 3, .freeCommand 3, .reportTimerExpiry 3, reportOf 2 0] (driven .live) =
      (3, 3, false) := by decide +kernel

theorem witness_ReportInTheOtherStates_fault (c : ActCause) (l : LinkState) (w o : Bool) : ∃ s, s.resetHeld = false ∧
    (act 7 s).state = .fault c ∧ (act 7 s).link = l ∧ (act 7 s).freeWait = w ∧ (act 7 s).holdOwed = o :=
  ⟨setAct 7 { state := .fault c, link := l, freeWait := w, holdOwed := o } base, rfl, rfl, rfl, rfl, rfl⟩

theorem witness_ReportInTheOtherStates : parseReport [] = none ∧ parseReport (goodUnit ++ [0]) = none ∧
    parseReport (sealUnit [0x81, 9, 3, 0, 0, 0, 0]) = some { echo := 9, status := .free, force := 0, stroke := 0 } := by
  decide +kernel

theorem witness_ActuatorTimersExpire (st : ActState) (w : Bool) (x y z : Option Nat) : ∃ s, PortFree s ∧
    (act 0 s).state = st ∧ (act 0 s).freeWait = w ∧ (act 0 s).link = .live ∧ (act 0 s).reportTimer = x ∧
    (act 0 s).settleTimer = y ∧ (act 0 s).freeTimer = z :=
  ⟨setAct 0 { state := st, freeWait := w, link := .live, reportTimer := x, settleTimer := y, freeTimer := z } base,
    ⟨rfl, rfl⟩, rfl, rfl, rfl, rfl, rfl, rfl⟩

theorem witness_ActuatorRequests (st : ActState) (l : LinkState) (c : Option CardStatus) (q : SeqState) :
    8 ≤ (8 : Byte).toNat ∧ (7 : Byte).toNat = (7 : Fin Config.actuators).val ∧ ∃ s, PortFree s ∧ (act 7 s).state = st ∧
      (act 7 s).link = l ∧ (act 7 s).repStatus = c ∧ s.lsq.seq = q :=
  ⟨by decide, by decide, inSeq q (setAct 7 { state := st, link := l, repStatus := c } base), ⟨rfl, rfl⟩, rfl, rfl, rfl,
    rfl⟩

/-- Two actuators at one station. -/
theorem witness_sharedStation : ∃ b, b ≠ (7 : Fin Config.actuators) ∧
    (act b (setAct 1 { state := .standby, station := 5 } base)).state ≠ .off ∧
    (act b (setAct 1 { state := .standby, station := 5 } base)).station = 5 := ⟨1, by decide, by decide, by decide⟩

theorem witness_LoadSideFieldWrites : (65000 : Word).toNat ≤ 65000 ∧ 65000 < (65001 : Word).toNat ∧
    (0xFFFF8300 : Word).toInt = -32000 ∧ base.lsq.swapPending = false ∧
    (onLsq (fun q => { q with swapPending := true }) base).lsq.swapPending = true ∧ (writeCell .settings 0 2 200 base).2 = none ∧
    (writeCell .settings 0 2 201 base).2 = some .range := by decide +kernel

theorem witness_PatternForcesAndTargets : bank.lead + bank.trail < 6 ∧ 0 < bank.lead ∧ 6 - bank.trail ≤ 5 ∧
    bank.lead ≤ 1 ∧ 4 < 6 - bank.trail ∧ (100 : Nat) ≤ 100 ∧ (0 : Int) ≤ 32000 := by decide +kernel

theorem witness_ValidationFindsTheFirstFailing : ({} : Bank).len = 0 ∧ bank.len ≠ 0 ∧ ¬ 10 ≤ ({} : Bank).ramp ∧
    bank.endCount = bank.lead + bank.trail ∧
    (validate bank [⟨0, 1⟩, ⟨1, 2⟩, ⟨2, 3⟩] base = some { item := .cell, index := some 0, act := some 1 }) ∧
    validate bank [⟨0, 1⟩, ⟨1, 2⟩] base = some { item := .travel } := by decide +kernel

/-- Three actuators in STANDBY that carry the pattern. -/
def threeActuators : State :=
  let r : Nat → Actuator := fun x => { state := .standby, station := x, compLimit := 32000, tensLimit := -32000 }
  setAct 2 (r 30) (setAct 1 (r 10) (setAct 0 (r 20) base))

theorem test_line : (formLine threeActuators).map (fun l => l.act.val) = [1, 0, 2] ∧
    validate bank (formLine threeActuators) threeActuators = none := by decide +kernel

/-- With a bank as the standby bank, in its state, and a pending swap. -/
def standingBy (b : Bank) (st : BankState) (p : Bool) (s : State) : State :=
  onLsq (fun q => { q with bankB := { b with state := st }, swapPending := p }) s

theorem witness_BankRequests : Free (standingBy bank .valid true base) ∧
    (standingBy bank .valid true base).lsq.swapPending = true ∧
    (let s := standingBy bank .valid false (inSeq .ready threeActuators)
     s.lsq.swapPending = false ∧ s.lsq.seq = .ready ∧ (standbyBank s).state = .valid ∧
      validate (standbyBank s) (theLine s) s = none) ∧
    (let s := standingBy {} .valid false (inSeq .ready base)
     (standbyBank s).state = .valid ∧ validate (standbyBank s) (theLine s) s = some { item := .envelope }) ∧
    (standbyBank base).state ≠ .valid ∧ (inSeq .halted base).lsq.seq = .halted := by decide +kernel

/-- The bank in the ACTIVE role. -/
def playing (s : State) : State := onLsq (fun q => { q with bankA := bank }) s

theorem witness_ArmChecksAndEffect : Free base ∧ (inSeq .ready base).lsq.seq ≠ .idle ∧ base.lsq.rezoneOpen = false ∧
    (takeRezoneNotice true base).lsq.rezoneOpen = true ∧ formLine base = [] ∧ formLine threeActuators ≠ [] ∧
    (∃ l ∈ formLine (setAct 3 { state := .fault .slow } base), ∃ c,
      (act l.act (setAct 3 { state := .fault .slow } base)).state = .fault c) ∧
    (validate (activeBank threeActuators) (formLine threeActuators) threeActuators = some { item := .envelope }) ∧
    (∀ l ∈ formLine threeActuators, (act l.act threeActuators).state = .standby) ∧
    validate (activeBank (playing threeActuators)) (formLine threeActuators) (playing threeActuators) = none := by
  refine ⟨by decide +kernel, by decide +kernel, rfl, rfl, by decide +kernel, by decide +kernel,
    ⟨⟨3, 0⟩, by decide +kernel, .slow, by decide +kernel⟩, by decide +kernel, by decide +kernel, by decide +kernel⟩

theorem witness_StartAndResume : (let s := inSeq .ready base
      Free s ∧ s.lsq.seq = .ready ∧ s.lsq.rezoneOpen = false ∧ s.lsq.faultSet = 0 ∧ ¬ (activeBank s).target ≠ 0 ∧
        s.lsq.passCount ≠ 2 ^ 32 - 1) ∧
    (inSeq (.held .step) base).lsq.seq = .held .step ∧ (takeRezoneNotice true base).lsq.rezoneOpen = true ∧
    (recordFault 0 base).lsq.faultSet ≠ 0 ∧
    (let s := onLsq (fun q => { q with passCount := 5, bankA := { bank with target := 5 } }) base
     (activeBank s).target ≠ 0 ∧ (activeBank s).target ≤ s.lsq.passCount) := by decide +kernel

theorem witness_HaltStopRestDisarm (q : SeqState) : ∃ s, PortFree s ∧ s.lsq.seq = q := ⟨inSeq q base, ⟨rfl, rfl⟩, rfl⟩

theorem witness_HaltRequestsAndIntervalClock (q : SeqState) : (∃ s : State, PortFree s ∧ s.lsq.seq = q) ∧
    SequencerInRange base ∧ step base = .next base :=
  ⟨⟨inSeq q base, ⟨rfl, rfl⟩, rfl⟩, ⟨by decide, by decide⟩, rfl⟩

theorem witness_ActuatorFaultAndFreedNotices : inSet base.lsq.faultSet 7 = false ∧
    inSet (recordFault 7 base).lsq.faultSet 7 = true ∧ (0 : Fin Config.actuators) ∉ lineActs base ∧
    (let s := onLsq (fun q => { q with line := some [⟨0, 1⟩, ⟨1, 2⟩] }) (inSeq .disarming base)
     s.lsq.seq = .disarming ∧ (0 : Fin Config.actuators) ∈ lineActs s ∧
      inSet (putBit s.lsq.freedSet 0 true) 1 = false) ∧
    (let s := onLsq (fun q => { q with line := some [⟨0, 1⟩] }) (inSeq .disarming base)
     ∀ b ∈ lineActs s, inSet (putBit s.lsq.freedSet 0 true) b = true) := by decide +kernel

theorem witness_ScaleAndFalls : Free base ∧ 100 < (101 : Byte).toNat ∧ (100 : Byte).toNat ≤ 100 ∧ base.resetHeld = false ∧
    base.transit = [] := by decide +kernel

theorem witness_SettledNotice : (let s := onLsq (fun q => { q with awaited := q.awaited.set 0 (some 9) }) base
      s.resetHeld = false ∧ s.lsq.awaited.get 0 = some 9 ∧ s.lsq.awaited.get 0 ≠ some 8 ∧
        (∀ b, (s.lsq.awaited.set 0 none).get b = none) ∧ s.transit = []) ∧
    inSet (onLsq (fun q => { q with reholdSet := 1 }) base).lsq.reholdSet 0 = true ∧
    (∃ b, ((onLsq (fun q => { q with awaited := q.awaited.set 1 (some 9) }) base).lsq.awaited.set 0 none).get b ≠ none) ∧
    (Instr.setCommand 0 5 10 ∈ (send (.setCommand 0 5 10) base).transit ∧
      ∀ t r, .setCommand 1 t r ∉ (send (.setCommand 0 5 10) base).transit) := by
  refine ⟨by decide +kernel, by decide +kernel, by decide +kernel, by decide +kernel, fun t r h => ?_⟩
  have : Instr.setCommand 1 t r = .setCommand 0 5 10 := List.mem_singleton.1 h
  cases this

/-- R69: in HELD, two falls: while the second SET is unanswered the first tag's settle sends no HOLD; the second tag's
does. -/
theorem test_reholdWaitsForTheNewestTag :
    (let held := onLsq (fun q => { q with reholdSet := 1, awaited := q.awaited.set 0 (some 9) }) (inSeq (.held .step) base)
     let waiting := runAll [.settled 0 9] (send (.setCommand 0 5 10) held)
     let answered := onLsq (fun q => { q with awaited := q.awaited.set 0 (some 10) }) (arrive (.setCommand 0 5 10) waiting)
     (waiting.lsq.reholdSet, waiting.transit, (runAll [.settled 0 10] answered).lsq.reholdSet,
       (runAll [.settled 0 10] answered).transit)) = (1, [.setCommand 0 5 10], 0, [.holdCommand 0]) := by decide +kernel

/-- R63: at position 1 the envelope of three lies over both travel places of a line of four; their zones are published. -/
theorem test_envelopeMask :
    (let s := setAct 2 { zone := 31 } (setAct 1 { zone := 4 } (setAct 0 { zone := 9 } (setAct 3 { zone := 9 } base)))
     let t := onLsq (fun q => { q with bankA := bank, line := some [⟨0, 1⟩, ⟨1, 2⟩, ⟨2, 3⟩, ⟨3, 4⟩], position := 1 }) s
     (envelopeMask t, envelopeMask (onLsq (fun q => { q with position := 0 }) t))) = (0x80000010, 0x10) := by
  decide +kernel

theorem witness_DwellExpiryAndPassBoundary : (let s := onLsq (fun q => { q with
        dwellTimer := some 3000, bankA := bank, line := some [⟨0, 1⟩, ⟨1, 2⟩, ⟨2, 3⟩] }) (inSeq (.running .dwell) base)
      s.resetHeld = false ∧ s.lsq.dwellTimer ≠ none ∧ s.lsq.seq = .running .dwell ∧
        s.lsq.position < lastPosition (activeBank s) (theLine s).length ∧
        lastPosition (activeBank s) (theLine s).length ≤ 2) ∧ base.lsq.dwellTimer = none := by decide +kernel

/-- A gauge stands open at its key. -/
def gauged : State := setMap 3 127 (some 511) (setGauge 511 { state := .over, scanner := 3, channel := 127 } base)

theorem witness_KeysStayTrue : KeysTrue base ∧ step base = .next base := by
  have hg : ∀ i, gauge i base = {} := fun i => Table.get_fill _ i
  have hm : ∀ k c, gaugeAt k c base = none := fun k c => by
    unfold gaugeAt Table.getD
    split
    · split
      · exact Table.get_fill _ _
      · rfl
    · rfl
  exact ⟨⟨fun i h => absurd (by rw [hg]) h, fun k c i h => by rw [hm] at h; cases h⟩, rfl⟩

theorem test_key : gaugeAt 3 127 gauged = some 511 ∧ gaugeAt 3 128 gauged = none ∧
    (takeOpenGauge 0 3 127 5 gauged).2.map Reply.reason = some .keyInUse := by decide +kernel

theorem witness_PartsOfAGaugeEvent : base.gsc.zeroOp = none ∧
    (onGsc (fun u => { u with zeroOp := some ⟨2, 0, 0⟩ }) base).gsc.zeroOp = some ⟨2, 0, 0⟩ ∧ 1 < 2 ∧ 2 ≤ 2 ∧
    anyAlert base = false ∧ anyAlert (setGauge 511 { state := .alert } base) = true ∧
    ({ state := .over } : Gauge).countedOver = true ∧ ({ state := .fault .link } : Gauge).countedFault = true := by
  decide +kernel

theorem witness_GaugeRequests : Free base ∧ 512 ≤ u16 0 2 ∧ 4 ≤ (4 : Byte).toNat ∧ 128 ≤ (128 : Byte).toNat ∧
    65000 < u16 0xE9 0xFD ∧ u16 0xFF 1 = (511 : Fin Config.gauges).val ∧ (3 : Byte).toNat = (3 : Fin Config.scanners).val ∧
    (127 : Byte).toNat = (127 : Fin Config.channels).val ∧ u16 0xE8 0xFD ≤ 65000 ∧ (gauge 511 base).state = .vacant ∧
    base.gsc.chanMap.getD 511 none = none ∧
    (setMap 3 127 (some 0) base).gsc.chanMap.getD 511 none ≠ none := by decide +kernel

theorem witness_ZeroAndShuntRequests : Free base ∧ u16 0xFF 0xFF = 0xFFFF ∧ 512 ≤ u16 0 2 ∧ u16 0xFF 1 < 512 ∧
    base.lsq.seq = .idle ∧ (inSeq .arming base).lsq.seq ≠ .idle ∧ base.gsc.zeroOp = none ∧ base.sp.window = none ∧
    (setTheWindow window base).sp.window = some window ∧ window.table = .gauges ∧ base.gsc.shuntOp = none := by
  decide +kernel

/-- A scan frame of one GOOD reading of 900 on channel 5. -/
def scanUnit : List Byte := sealUnit [0x91, 1, 5, 0, 0x84, 3]

theorem witness_ScanFramesAndLinkTimers : base.resetHeld = false ∧ parseScanFrame [] = none ∧
    parseScanFrame scanUnit = some [{ channel := 5, quality := .good, value := 900 }] ∧
    [[0x91, 0], [0x91, 1, 5, 4, 0, 0], [0x91, 2, 5, 0, 0, 0], [0x92, 1, 5, 0, 0, 0]].map (fun u => parseScanFrame (sealUnit u)) =
      [none, none, none, none] ∧
    (scannerLink 3 base).state ≠ .lost ∧ (scannerLink 3 (setScannerLink 3 { state := .lost } base)).state = .lost ∧
    (scannerLink 3 base).timer = none ∧
    (scannerLink 3 (setScannerLink 3 { timer := some 500 } base)).timer ≠ none ∧ base.gsc.shuntOp = none ∧
    (gauge 0 base).scanner = 0 := by decide +kernel

theorem witness_ReadingArrival : base.resetHeld = false ∧ 128 ≤ (128 : Byte).toNat ∧ (127 : Byte).toNat < 128 ∧
    base.gsc.chanMap.getD 511 none = none ∧
    (setMap 3 127 (some 511) base).gsc.chanMap.getD (3 * 128 + 127) none = some 511 := by decide +kernel

theorem witness_JudgementOfAReading : setA.upper < max (-32000) (min 32000 (801 - 0)) ∧
    ¬ (setA.upper < max (-32000) (min 32000 (800 - 0))) ∧ setA.declare ≤ min 15 (2 + 1) ∧ min 15 (1 + 1) < setA.declare ∧
    (750 : Int) ≤ setA.upper - setA.hyst ∧ ¬ (751 : Int) ≤ setA.upper - setA.hyst := by decide +kernel

theorem witness_CrackWatchStaysTrue : BindingsTrue base ∧ HitsTrue base ∧ step base = .next base := by
  have hl : ∀ l, loop l base = { closed := false } := fun l => by
    show (Table.map _ _).get l = _
    rw [Table.get_map]
    rw [Table.get_fill]
  have hc : ∀ i, crack i base = {} := fun i => Table.get_fill _ i
  refine ⟨⟨fun l i => ?_, fun l i h => ?_, fun i => ?_, fun l h => ?_⟩, ⟨by decide, .nil⟩, rfl⟩
  · simp [hl, hc]
  · simp [hl] at h
  · simp [hc]
  · simp [hl] at h

theorem witness_LoopLinesAndRequests (st : LoopState) (c : Bool) (b : Option (Fin Config.cracks)) :
    24 ≤ (24 : Byte).toNat ∧ (23 : Byte).toNat = (23 : Fin Config.loops).val ∧ ∃ s, PortFree s ∧ (loop 23 s).state = st ∧
      (loop 23 s).closed = c ∧ (loop 23 s).bound = b :=
  ⟨by decide, by decide, setLoop 23 { state := st, closed := c, bound := b } base, ⟨rfl, rfl⟩, rfl, rfl, rfl⟩

theorem witness_CrackRequests (st : CrackState) : 48 ≤ (48 : Byte).toNat ∧
    (47 : Byte).toNat = (47 : Fin Config.cracks).val ∧ (u16 1 0 ≤ u16 1 0 ∧ u16 0xE8 0xFD ≤ 65000 ∧ (100 : Byte).toNat ≤ 100) ∧
    (∃ s, PortFree s ∧ (crack 47 s).state = st) ∧ (crack 0 base).state = .vacant ∧
    ∀ i, (crack i { base with cwu := { base.cwu with cracks := Table.fill _ { state := .suspect } } }).state ≠ .vacant :=
  ⟨by decide, by decide, by decide, ⟨setCrack 47 { state := st } base, ⟨rfl, rfl⟩, rfl⟩, rfl, by decide +kernel⟩

/-- A SUSPECT crack at 1000..2000, and the loop 0 with its timer running at 2300. -/
def suspected : State :=
  setCrack 5 { state := .suspect, lo := 1000, hi := 2000 }
    (setLoop 0 { station := 2300, state := .opening, timer := some 200 } base)

theorem witness_WireEvidence : suspected.resetHeld = false ∧ (loop 0 suspected).timer ≠ none ∧
    (loop 1 suspected).timer = none ∧ joinedRecord true 2300 suspected = some 5 ∧
    joinedRecord true 2301 suspected = none ∧ joinedRecord false 700 suspected = some 5 ∧
    joinedRecord false 699 suspected = none ∧ (crack 0 suspected).state = .vacant := by decide +kernel

/-- Two enabled sensors at 10000 and 14000, an entry of the first pending. -/
def listening : State :=
  setHits [⟨0, 100400, 48⟩] (setSensor 1 { station := 14000, enabled := true }
    (setSensor 0 { station := 10000, enabled := true } base))

/-- A hit of amplitude 52 at sensor 1. -/
def hitUnit (t : Nat) : List Byte := sealUnit ([0xA1, 1] ++ le32 t ++ [52])

theorem witness_HitArrival : listening.resetHeld = false ∧ parseHit [] = none ∧
    parseHit (hitUnit 100000) = some { sensor := 1, time := 100000, amplitude := 52 } ∧
    parseHit (sealUnit ([0xA1, 16] ++ le32 0 ++ [52])) = some { sensor := 16, time := 0, amplitude := 52 } ∧
    pairsWith listening ⟨1, 100000, 52⟩ ⟨0, 100400, 48⟩ = true ∧
    pairsWith listening ⟨1, 101421, 52⟩ ⟨0, 100400, 48⟩ = false ∧ (sensor 2 listening).enabled = false ∧
    largestWindow listening = 1020 := by decide +kernel

theorem test_hit : (takeHit (hitUnit 100000) listening).cwu.tallies.rows.take 1 =
    [{ count := 1, sum := 12800, min := some 12800, max := some 12800 }] := by decide +kernel

theorem witness_IntervalCloseAtCrackWatch : suspected.resetHeld = false ∧
    (((takeCwuClose (setCrack 6 { state := .suspect, hits := 5, activeRun := 2 } suspected)).cwu.cracks.rows.map
      fun r => r.state).contains .confirmed) = true := by decide +kernel

theorem witness_WatchSideFieldWrites : (gauge 0 base).state = .vacant ∧
    (gauge 0 (setGauge 0 { state := .suspended } base)).state = .suspended ∧ 4 ≤ (4 : Word).toNat ∧ (3 : Word).toNat = 3 ∧
    base.gsc.chanMap.getD 0 none = none ∧ (setMap 0 0 (some 0) base).gsc.chanMap.getD 0 none = some 0 ∧
    (loop 0 base).state = .unused ∧ (2550 : Word).toNat % 10 = 0 ∧ 65000 < (65001 : Word).toNat ∧
    (crack 0 base).state = .vacant ∧ (crack 5 suspected).state = .suspect := by decide +kernel

theorem witness_FramesReadBack : (Instr.find [1, 2]).wf = true ∧ encodeFrame (.find [1, 2]) = some [0x15, 1, 2] := by
  decide

end Sys2Proof.Tests
end

section
/-! Actuator records and their numbers: what replacing a record twice gives, which numbers name an actuator, and when an
actuator is in FAULT. -/
namespace Sys2Proof.Machine

variable {a : Fin Config.actuators} {s : State}

/-- Of two writes to one record the second stands. -/
@[simp] theorem table_set_set {α : Type} {n : Nat} (t : Table α n) (i : Fin n) (x y : α) :
    (t.set i x).set i y = t.set i y :=
  Table.ext_get fun j => by simp only [Table.get_set]; split <;> rfl

/-- Of two replacements of an actuator record the second stands. -/
@[simp] theorem setAct_setAct (x y : Actuator) : setAct a y (setAct a x s) = setAct a y s := by
  simp [setAct, onAch]

/-- Every record number of a table is among its indices. -/
theorem mem_indices {n : Nat} (i : Fin n) : i ∈ indices n :=
  List.mem_filterMap.2 ⟨i.val, List.mem_range.2 i.isLt, Table.index?_val i⟩

/-- FAULT, whatever its cause. -/
theorem mem_faults_iff {st : ActState} :
    st ∈ [.fault .link, .fault .card, .fault .following, .fault .stroke, .fault .slow] ↔ ∃ c, st = .fault c := by
  constructor
  · intro h
    simp only [List.mem_cons, List.not_mem_nil, or_false] at h
    rcases h with h | h | h | h | h <;> exact ⟨_, h⟩
  · rintro ⟨c, rfl⟩
    cases c <;> decide

/-- Outside FAULT there is no fault cause (R20). -/
theorem cause?_eq_none_iff {st : ActState} : st.cause? = none ↔ ¬ ∃ c, st = .fault c := by
  cases st <;> simp [ActState.cause?]

/-- The sequencer answers IDLE exactly in IDLE. -/
theorem seqIdle_iff : seqIdle s = true ↔ s.lsq.seq = .idle := beq_iff_eq

/-- A station is taken exactly where another actuator not in OFF stands there (R21, R22). -/
theorem stationTaken_iff {x : Nat} :
    stationTaken a x s = true ↔ ∃ b, b ≠ a ∧ (act b s).state ≠ .off ∧ (act b s).station = x := by
  simp [stationTaken, mem_indices, and_assoc]

end Sys2Proof.Machine
end

section
/-! The HOLD and FREE drive commands (R27, R28): what each does at ACH, by the actuator's state, link and free wait. -/
namespace Sys2Proof.Machine

variable {a : Fin Config.actuators} {s : State}

/-- HOLD for a record just replaced: the unit and the record carry that record's next tag. -/
theorem sendHold_setAct (x : Actuator) :
    sendHold a (setAct a x s) =
      transmit (.drive a) (holdUnit (nextTag x)) (setAct a { x with lastTag := nextTag x } s) := by
  simp [sendHold]

/-- FREE for a record just replaced: the unit and the record carry that record's next tag. -/
theorem sendFree_setAct (x : Actuator) :
    sendFree a (setAct a x s) =
      transmit (.drive a) (freeUnit (nextTag x)) (setAct a { x with lastTag := nextTag x } s) := by
  simp [sendFree]

/-- A HOLD command reaches ACH. -/
theorem exec_holdCommand (h : s.resetHeld = false) :
    exec (.holdCommand a) s = .next (takeHoldCommand a (arrive (.holdCommand a) s)) := onArrival_free _ _ h

/-- A FREE command reaches ACH. -/
theorem exec_freeCommand (h : s.resetHeld = false) :
    exec (.freeCommand a) s = .next (takeFreeCommand a (arrive (.freeCommand a) s)) := onArrival_free _ _ h

/-- HOLD in DRIVEN outside a free wait is obeyed (R27). -/
theorem takeHoldCommand_obeyed (hd : (act a s).state = .driven) (hw : (act a s).freeWait = false) :
    takeHoldCommand a s = transmit (.drive a) (holdUnit (nextTag (act a s)))
      (setAct a { held (act a s) with lastTag := nextTag (act a s) } s) := by
  rw [takeHoldCommand, if_pos ⟨hd, hw⟩, sendHold_setAct]
  rfl

/-- HOLD elsewhere is ignored (R27). -/
theorem takeHoldCommand_ignored (h : (act a s).state ≠ .driven ∨ (act a s).freeWait = true) :
    takeHoldCommand a s = s := by
  refine if_neg fun ⟨hd, hw⟩ => ?_
  rcases h with h | h
  · exact h hd
  · simp [hw] at h

/-- FREE in DRIVEN, HOLDING or FAULT on a LIVE link sends FREE and starts a free wait (R28). -/
theorem takeFreeCommand_live
    (hst : (act a s).state = .driven ∨ (act a s).state = .holding ∨ ∃ c, (act a s).state = .fault c)
    (hw : (act a s).freeWait = false) (hl : (act a s).link = .live) :
    takeFreeCommand a s = transmit (.drive a) (freeUnit (nextTag (act a s)))
      (setAct a { waiting s.ach.freeTime (act a s) with lastTag := nextTag (act a s) } s) := by
  have hstart : takeFreeCommand a s = startFreeWait a s := by
    rcases hst with hst | hst | ⟨c, hst⟩ <;> simp [takeFreeCommand, hw, hst, hl]
  exact hstart.trans (sendFree_setAct _)

/-- FREE in DRIVEN or HOLDING on a link not LIVE: no card to wait for, so STANDBY and FREED at once (R28). -/
theorem takeFreeCommand_standby (hst : (act a s).state = .driven ∨ (act a s).state = .holding)
    (hw : (act a s).freeWait = false) (hl : (act a s).link ≠ .live) :
    takeFreeCommand a s = send (.freed a) (setAct a { act a s with state := .standby } s) := by
  rcases hst with hst | hst <;> simp [takeFreeCommand, hw, hst, hl]

/-- FREE in STANDBY, or in FAULT on a link not LIVE: FREED at once, the record as it was (R28). -/
theorem takeFreeCommand_freed (hw : (act a s).freeWait = false)
    (hst : (act a s).state = .standby ∨ ((∃ c, (act a s).state = .fault c) ∧ (act a s).link ≠ .live)) :
    takeFreeCommand a s = send (.freed a) s := by
  rcases hst with hst | ⟨⟨c, hst⟩, hl⟩
  · simp [takeFreeCommand, hw, hst]
  · simp [takeFreeCommand, hw, hst, hl]

/-- FREE in OFF or during a free wait is ignored (R28). -/
theorem takeFreeCommand_ignored (h : (act a s).state = .off ∨ (act a s).freeWait = true) : takeFreeCommand a s = s := by
  rcases h with h | h <;> simp [takeFreeCommand, h]

/-- Settles O29: each clause is one outcome of the command at ACH, taken once its message has arrived. -/
theorem holdAndFreeDriveCommands : Obligations.HoldAndFreeDriveCommands := by
  intro a s hr r inFault tag heldRest rest
  have hf : inFault ↔ ∃ c, r.state = .fault c := mem_faults_iff
  rw [exec_holdCommand hr, exec_freeCommand hr, hf]
  refine ⟨fun hst hw => ?holdObeyed, fun h => ?holdIgnored, fun hst hw hl => ?freeLive,
    fun hst hw hl => ?freeStandby, fun hw hst => ?freed, fun h => ?freeIgnored⟩
  case holdObeyed => exact congrArg _ (takeHoldCommand_obeyed hst hw)
  case holdIgnored => exact congrArg _ (takeHoldCommand_ignored h)
  case freeLive => exact congrArg _ (takeFreeCommand_live hst hw hl)
  case freeStandby => exact congrArg _ (takeFreeCommand_standby hst hw hl)
  case freed => exact congrArg _ (takeFreeCommand_freed hw hst)
  case freeIgnored => exact congrArg _ (takeFreeCommand_ignored h)

end Sys2Proof.Machine
end

section
/-! ENABLE ACTUATOR, DISABLE ACTUATOR and CLEAR FAULT (R22 to R24): the outcome of each at ACH, check by check, and the
answer it is given. -/
namespace Sys2Proof.Machine

variable {a : Fin Config.actuators} {s : State}

/-! ### The answer to a request that names a record by one byte -/

section
variable {n : Nat} {i : Fin n} {code b : Byte} {r : Reason} {f : Fin n → State → Taken}

/-- A byte past the last record is refused with RANGE. -/
theorem recordRequest_outOfRange (h : PortFree s) (k : keepsAmend code = false) (hb : n ≤ b.toNat) :
    hostRequest code (oneByte (indexed f)) [1, b] s = .next (answered code (refusedFor .range) s) := by
  rw [request_byte _ b h k, indexed_ge f hb]; rfl

/-- A byte that names a record puts the request to that record's owner. -/
theorem recordRequest_taken (h : PortFree s) (k : keepsAmend code = false) (hb : b.toNat = i.val) :
    hostRequest code (oneByte (indexed f)) [1, b] s = .next (postTaken code (f i (atOwner code s))) := by
  rw [request_byte _ b h k, hb, indexed_lt f i.isLt]

/-- What the owner refuses is answered REFUSED, all else unchanged (R172). -/
theorem recordRequest_refused (h : PortFree s) (k : keepsAmend code = false) (hb : b.toNat = i.val)
    (ht : f i (atOwner code s) = refuse (atOwner code s) r) :
    hostRequest code (oneByte (indexed f)) [1, b] s = .next (answered code (refusedFor r) s) := by
  rw [recordRequest_taken h k hb, ht]; rfl

end

/-- An actuator request done by replacing the record is answered DONE with the record replaced. -/
theorem actuatorRequest_done {code b : Byte} {f : Fin Config.actuators → State → Taken} {x : Actuator} (h : PortFree s)
    (k : keepsAmend code = false) (hb : b.toNat = a.val)
    (ht : f a (atOwner code s) = done (setAct a x (atOwner code s))) :
    hostRequest code (oneByte (indexed f)) [1, b] s = .next (answered code (doneWith []) (setAct a x s)) := by
  rw [recordRequest_taken h k hb, ht]; rfl

/-! ### ENABLE ACTUATOR (R22) -/

/-- First check: the actuator in OFF, the sequencer IDLE. -/
theorem takeEnableActuator_state (h : (act a s).state ≠ .off ∨ s.lsq.seq ≠ .idle) :
    takeEnableActuator a s = refuse s .state :=
  if_pos (h.imp_right fun h => Bool.eq_false_iff.2 (mt seqIdle_iff.1 h))

/-- The checks left in OFF with the sequencer IDLE: link, card status, station. -/
theorem takeEnableActuator_off (hst : (act a s).state = .off) (hq : s.lsq.seq = .idle) :
    takeEnableActuator a s =
      if (act a s).link ≠ .live then refuse s .link
      else if (act a s).repStatus ≠ some .free then refuse s .state
      else if stationTaken a (act a s).station s then refuse s .station
      else done (setAct a (standing (act a s)) s) :=
  if_neg (by simp [hst, seqIdle_iff.2 hq])

/-- Second check: the link LIVE. -/
theorem takeEnableActuator_link (hst : (act a s).state = .off) (hq : s.lsq.seq = .idle)
    (hl : (act a s).link ≠ .live) : takeEnableActuator a s = refuse s .link := by
  rw [takeEnableActuator_off hst hq, if_pos hl]

/-- Third check: the card's last status FREE. -/
theorem takeEnableActuator_card (hst : (act a s).state = .off) (hq : s.lsq.seq = .idle)
    (hl : (act a s).link = .live) (hc : (act a s).repStatus ≠ some .free) :
    takeEnableActuator a s = refuse s .state := by
  rw [takeEnableActuator_off hst hq, if_neg (not_not.2 hl), if_pos hc]

/-- Last check: no other actuator at the station. -/
theorem takeEnableActuator_station (hst : (act a s).state = .off) (hq : s.lsq.seq = .idle)
    (hl : (act a s).link = .live) (hc : (act a s).repStatus = some .free)
    (hs : stationTaken a (act a s).station s = true) : takeEnableActuator a s = refuse s .station := by
  rw [takeEnableActuator_off hst hq, if_neg (not_not.2 hl), if_neg (not_not.2 hc), if_pos hs]

/-- Every check passed: the record returns to STANDBY. -/
theorem takeEnableActuator_done (hst : (act a s).state = .off) (hq : s.lsq.seq = .idle)
    (hl : (act a s).link = .live) (hc : (act a s).repStatus = some .free)
    (hs : ¬ stationTaken a (act a s).station s = true) :
    takeEnableActuator a s = done (setAct a (standing (act a s)) s) := by
  rw [takeEnableActuator_off hst hq, if_neg (not_not.2 hl), if_neg (not_not.2 hc), if_neg hs]

/-! ### DISABLE ACTUATOR (R23) -/

/-- Taken in STANDBY with the sequencer IDLE. -/
theorem takeDisableActuator_done (hst : (act a s).state = .standby) (hq : s.lsq.seq = .idle) :
    takeDisableActuator a s = done (setAct a { act a s with state := .off } s) :=
  if_pos ⟨hst, seqIdle_iff.2 hq⟩

/-- Refused in any other state of either. -/
theorem takeDisableActuator_state (h : (act a s).state ≠ .standby ∨ s.lsq.seq ≠ .idle) :
    takeDisableActuator a s = refuse s .state := by
  refine if_neg fun ⟨hst, hq⟩ => ?_
  rcases h with h | h
  · exact h hst
  · exact h (seqIdle_iff.1 hq)

/-! ### CLEAR FAULT (R24) -/

/-- First check: the actuator in FAULT, the sequencer IDLE. -/
theorem takeClearFault_state (h : (¬ ∃ c, (act a s).state = .fault c) ∨ s.lsq.seq ≠ .idle) :
    takeClearFault a s = refuse s .state :=
  if_pos (h.imp cause?_eq_none_iff.2 fun h => Bool.eq_false_iff.2 (mt seqIdle_iff.1 h))

/-- The checks left in FAULT with the sequencer IDLE: link, card status. -/
theorem takeClearFault_fault (hst : ∃ c, (act a s).state = .fault c) (hq : s.lsq.seq = .idle) :
    takeClearFault a s =
      if (act a s).link ≠ .live then refuse s .link
      else if (act a s).repStatus ≠ some .free then refuse s .state
      else done (setAct a (standing (act a s)) s) :=
  if_neg (by simp [cause?_eq_none_iff, hst, seqIdle_iff.2 hq])

/-- Second check: the link LIVE. -/
theorem takeClearFault_link (hst : ∃ c, (act a s).state = .fault c) (hq : s.lsq.seq = .idle)
    (hl : (act a s).link ≠ .live) : takeClearFault a s = refuse s .link := by
  rw [takeClearFault_fault hst hq, if_pos hl]

/-- Last check: the card's last status FREE. -/
theorem takeClearFault_card (hst : ∃ c, (act a s).state = .fault c) (hq : s.lsq.seq = .idle)
    (hl : (act a s).link = .live) (hc : (act a s).repStatus ≠ some .free) :
    takeClearFault a s = refuse s .state := by
  rw [takeClearFault_fault hst hq, if_neg (not_not.2 hl), if_pos hc]

/-- Every check passed: the record returns to STANDBY. -/
theorem takeClearFault_done (hst : ∃ c, (act a s).state = .fault c) (hq : s.lsq.seq = .idle)
    (hl : (act a s).link = .live) (hc : (act a s).repStatus = some .free) :
    takeClearFault a s = done (setAct a (standing (act a s)) s) := by
  rw [takeClearFault_fault hst hq, if_neg (not_not.2 hl), if_neg (not_not.2 hc)]

/-- Settles O33: a byte past the last actuator names none; for the others each clause is one outcome of the request's
checks at ACH. -/
theorem actuatorRequests : Obligations.ActuatorRequests := by
  constructor
  · intro b s hp hb
    exact ⟨recordRequest_outOfRange hp rfl hb, recordRequest_outOfRange hp rfl hb, recordRequest_outOfRange hp rfl hb⟩
  · intro a b s hp hb r inFault shared put standby
    have hf : inFault ↔ ∃ c, r.state = .fault c := mem_faults_iff
    have hs : stationTaken a r.station s = true ↔ shared := stationTaken_iff
    rw [hf, ← hs]
    refine ⟨fun h => ?enableState, fun hst hq => ⟨fun hl => ?enableLink, fun hl hc => ?enableCard,
        fun hl hc hs => ?enableStation, fun hl hc hs => ?enable⟩,
      fun hst hq => ?disable, fun h => ?disableState, fun h => ?clearState,
      fun hst hq => ⟨fun hl => ?clearLink, fun hl hc => ?clearCard, fun hl hc => ?clear⟩⟩
    case enableState => exact recordRequest_refused hp rfl hb (takeEnableActuator_state h)
    case enableLink => exact recordRequest_refused hp rfl hb (takeEnableActuator_link hst hq hl)
    case enableCard => exact recordRequest_refused hp rfl hb (takeEnableActuator_card hst hq hl hc)
    case enableStation => exact recordRequest_refused hp rfl hb (takeEnableActuator_station hst hq hl hc hs)
    case enable => exact actuatorRequest_done hp rfl hb (takeEnableActuator_done hst hq hl hc hs)
    case disable => exact actuatorRequest_done hp rfl hb (takeDisableActuator_done hst hq)
    case disableState => exact recordRequest_refused hp rfl hb (takeDisableActuator_state h)
    case clearState => exact recordRequest_refused hp rfl hb (takeClearFault_state h)
    case clearLink => exact recordRequest_refused hp rfl hb (takeClearFault_link hst hq hl)
    case clearCard => exact recordRequest_refused hp rfl hb (takeClearFault_card hst hq hl hc)
    case clear => exact actuatorRequest_done hp rfl hb (takeClearFault_done hst hq hl hc)

end Sys2Proof.Machine
end

section
/-! HALT, STOP NOW, REST and DISARM (R71, R73, R76, R78): the outcome of each at LSQ by the sequencer's state, and the
answer it is given. -/
namespace Sys2Proof.Machine

variable {s t : State}

/-! ### The answer to a request without parameters -/

section
variable {code : Byte} {r : Reason} {f : State → Taken}

/-- What the owner refuses is answered REFUSED, all else unchanged (R172). -/
theorem plainRequest_refused (h : PortFree s) (k : keepsAmend code = false)
    (ht : f (atOwner code s) = refuse (atOwner code s) r) :
    hostRequest code (noParams f) [0] s = .next (answered code (refusedFor r) s) := by
  rw [request_none f h k, ht]; rfl

/-- What the owner does is answered DONE, in the state it makes of its own (R169). -/
theorem plainRequest_done (h : PortFree s) (k : keepsAmend code = false)
    (ht : f (atOwner code s) = done (atOwner code t)) :
    hostRequest code (noParams f) [0] s = .next (answered code (doneWith []) t) := by
  rw [request_none f h k, ht]; rfl

end

/-! ### HALT (R71) -/

/-- In RUNNING: HALTING-FINISH in the same step phase. -/
theorem takeHalt_running {ph : StepPhase} (h : s.lsq.seq = .running ph) :
    takeHalt s = done (enterSeq (.haltingFinish ph) (setCause .hostOrderly s)) := by
  simp only [takeHalt, h]

/-- In HALTING: nothing left to do. -/
theorem takeHalt_halting (h : (∃ ph, s.lsq.seq = .haltingFinish ph) ∨ s.lsq.seq = .haltingRest) :
    takeHalt s = done s := by
  rcases h with ⟨ph, h⟩ | h <;> simp only [takeHalt, h]

/-- Refused in any other state. -/
theorem takeHalt_state (h : s.lsq.seq ∈ [.idle, .arming, .ready, .held .step, .held .rest, .halted, .disarming]) :
    takeHalt s = refuse s .state := by
  simp only [List.mem_cons, List.not_mem_nil, or_false] at h
  rcases h with h | h | h | h | h | h | h <;> simp only [takeHalt, h]

/-! ### STOP NOW (R60, R73) -/

/-- In RUNNING and HALTING-FINISH: an immediate halt out of a step. -/
theorem takeStopNow_step (h : ∃ ph, s.lsq.seq = .running ph ∨ s.lsq.seq = .haltingFinish ph) :
    takeStopNow s = done (heldNow .hostImmediate .step s) := by
  obtain ⟨ph, h | h⟩ := h <;> simp only [takeStopNow, h, haltNow_eq]

/-- In HALTING-REST: an immediate halt out of the rest ramp. -/
theorem takeStopNow_rest (h : s.lsq.seq = .haltingRest) :
    takeStopNow s = done (heldNow .hostImmediate .rest s) := by
  simp only [takeStopNow, h, haltNow_eq]

/-- In ARMING: the ARM is aborted into DISARMING (R60). -/
theorem takeStopNow_arming (h : s.lsq.seq = .arming) :
    takeStopNow s = done (disarmingNow (setCause .hostImmediate s)) := by
  simp only [takeStopNow, h, enterDisarming_eq]

/-- Refused in any other state. -/
theorem takeStopNow_state (h : s.lsq.seq ∈ [.idle, .ready, .held .step, .held .rest, .halted, .disarming]) :
    takeStopNow s = refuse s .state := by
  simp only [List.mem_cons, List.not_mem_nil, or_false] at h
  rcases h with h | h | h | h | h | h <;> simp only [takeStopNow, h]

/-! ### REST (R76) -/

/-- In HELD, whatever it interrupted: the rest ramp. -/
theorem takeRest_held (h : ∃ o, s.lsq.seq = .held o) : takeRest s = done (restRamped s) := by
  obtain ⟨o, h⟩ := h
  simp only [takeRest, h, startRestRamp_eq]

/-- Refused in any other state. -/
theorem takeRest_state (h : ∀ o, s.lsq.seq ≠ .held o) : takeRest s = refuse s .state := by
  unfold takeRest
  split
  · next o ho => exact absurd ho (h o)
  · rfl

/-! ### DISARM (R78) -/

/-- In READY and HALTED: DISARMING. -/
theorem takeDisarm_done (h : s.lsq.seq = .ready ∨ s.lsq.seq = .halted) : takeDisarm s = done (disarmingNow s) := by
  rw [takeDisarm, if_pos h, enterDisarming_eq]

/-- Refused in any other state. -/
theorem takeDisarm_state (hr : s.lsq.seq ≠ .ready) (hh : s.lsq.seq ≠ .halted) : takeDisarm s = refuse s .state :=
  if_neg (not_or.2 ⟨hr, hh⟩)

/-- Settles O40: each clause is one outcome of the request at LSQ, which neither reads nor changes the slot. -/
theorem haltStopRestDisarm : Obligations.HaltStopRestDisarm := by
  intro s hp caused
  refine ⟨fun ph h => ?halt, fun h => ?haltAgain, fun h => ?haltState, fun h => ?stopStep, fun h => ?stopRest,
    fun h => ?stopArming, fun h => ?stopState, fun h => ?rest, fun h => ?restState, fun h => ?disarm,
    fun hr hh => ?disarmState⟩
  case halt => exact plainRequest_done hp rfl (takeHalt_running h)
  case haltAgain => exact plainRequest_done hp rfl (takeHalt_halting h)
  case haltState => exact plainRequest_refused hp rfl (takeHalt_state h)
  case stopStep => exact plainRequest_done hp rfl (takeStopNow_step h)
  case stopRest => exact plainRequest_done hp rfl (takeStopNow_rest h)
  case stopArming => exact plainRequest_done hp rfl (takeStopNow_arming h)
  case stopState => exact plainRequest_refused hp rfl (takeStopNow_state h)
  case rest => exact plainRequest_done hp rfl (takeRest_held h)
  case restState => exact plainRequest_refused hp rfl (takeRest_state h)
  case disarm => exact plainRequest_done hp rfl (takeDisarm_done h)
  case disarmState => exact plainRequest_refused hp rfl (takeDisarm_state hr hh)

end Sys2Proof.Machine
end

section
/-! A host request answered by its owner in the event that takes it: the owner's outcome in the state it is taken in gives
the state the part is left in (R168, R169, R172). -/
namespace Sys2Proof.Machine

variable {s t : State} {code : Byte} {r : Reply}

/-- The outcome of a request at its owner is the outcome of the request at the part. -/
theorem hostRequest_answered {take : List Byte → State → Taken} {tail params : List Byte} (h : PortFree s)
    (k : keepsAmend code = false) (hf : frameParams tail = some params)
    (ht : take params (atOwner code s) = (atOwner code t, some r)) :
    hostRequest code take tail s = .next (answered code r t) := by
  rw [hostRequest_at take h k hf, ht]; rfl

/-- The same for a request of one two-byte parameter. -/
theorem wordRequest_answered {f : Nat → State → Taken} {b c : Byte} (h : PortFree s) (k : keepsAmend code = false)
    (ht : f (u16 b c) (atOwner code s) = (atOwner code t, some r)) :
    hostRequest code (oneWord f) [2, b, c] s = .next (answered code r t) :=
  hostRequest_answered h k (frameParams_two b c) ht

section
variable {n : Nat} {i : Fin n} {b c : Byte} {f : Fin n → State → Taken}

/-- The same for a request whose two-byte parameter names record `i`. -/
theorem wordRecordRequest_answered (h : PortFree s) (k : keepsAmend code = false) (hb : u16 b c = i.val)
    (ht : f i (atOwner code s) = (atOwner code t, some r)) :
    hostRequest code (oneWord (indexed f)) [2, b, c] s = .next (answered code r t) :=
  wordRequest_answered h k (by rw [hb, indexed_lt f i.isLt, ht])

/-- A two-byte parameter past the last record is refused with RANGE. -/
theorem wordRecordRequest_outOfRange (h : PortFree s) (k : keepsAmend code = false) (hb : n ≤ u16 b c) :
    hostRequest code (oneWord (indexed f)) [2, b, c] s = .next (answered code (refusedFor .range) s) :=
  wordRequest_answered h k (indexed_ge f hb)

end

end Sys2Proof.Machine
end

section
/-! OPEN, RETIRE, SUSPEND and WATCH GAUGE (R87 to R90): the outcome of each at GSC, check by check, and the answer it is
given. -/
namespace Sys2Proof.Machine

variable {s : State} {i : Fin Config.gauges}

/-! ### OPEN GAUGE (R87) -/

section
variable {sc : Fin Config.scanners} {c : Fin Config.channels} {x : Nat} {i0 i1 k ch x0 x1 : Byte}

/-- A number that names record `k` is below the size. -/
theorem lt_of_index?_eq_some {n j : Nat} {k : Fin n} (h : Table.index? n j = some k) : j < n := by
  by_contra hj
  simp [Table.index?_ge (Nat.not_lt.1 hj)] at h

/-- First check: each value in its range. -/
theorem parseOpenGauge_range (h : 512 ≤ u16 i0 i1 ∨ 4 ≤ k.toNat ∨ 128 ≤ ch.toNat ∨ 65000 < u16 x0 x1) :
    parseOpenGauge [i0, i1, k, ch, x0, x1] s = refuse s .range := by
  simp only [parseOpenGauge]
  split
  · next hi hk hc =>
    have hi : u16 i0 i1 < 512 := lt_of_index?_eq_some hi
    have hk : k.toNat < 4 := lt_of_index?_eq_some hk
    have hc : ch.toNat < 128 := lt_of_index?_eq_some hc
    exact if_pos (show 65000 < u16 x0 x1 by omega)
  · rfl

/-- Values in their ranges name a record, a scanner and a channel. -/
theorem parseOpenGauge_inRange (hi : u16 i0 i1 = i.val) (hk : k.toNat = sc.val) (hc : ch.toNat = c.val)
    (hx : u16 x0 x1 ≤ 65000) :
    parseOpenGauge [i0, i1, k, ch, x0, x1] s = takeOpenGauge i sc c (u16 x0 x1) s := by
  simp only [parseOpenGauge, hi, hk, hc, Table.index?_val]
  exact if_neg (Nat.not_lt.2 hx)

/-- Second check: the record VACANT. -/
theorem takeOpenGauge_occupied (hg : (gauge i s).state ≠ .vacant) : takeOpenGauge i sc c x s = refuse s .occupied :=
  if_pos hg

/-- Third check: no open record with the key. -/
theorem takeOpenGauge_keyInUse (hg : (gauge i s).state = .vacant)
    (hm : s.gsc.chanMap.getD (sc.val * 128 + c.val) none ≠ none) :
    takeOpenGauge i sc c x s = refuse s .keyInUse := by
  have hk : (gaugeAt sc c s).isSome = true := by rwa [gaugeAt_eq c.isLt, Option.isSome_iff_ne_none]
  rw [takeOpenGauge, if_neg (not_not.2 hg), if_pos hk]

/-- Every check passed: the record opened, its key in the map. -/
theorem takeOpenGauge_done (hg : (gauge i s).state = .vacant)
    (hm : s.gsc.chanMap.getD (sc.val * 128 + c.val) none = none) :
    takeOpenGauge i sc c x s = done (setMap sc c (some i) (gaugeMoved i (openedGauge sc c x s) s)) := by
  have hk : ¬ (gaugeAt sc c s).isSome = true := by simp [gaugeAt_eq c.isLt, hm]
  rw [takeOpenGauge, if_neg (not_not.2 hg), if_neg hk, moveGauge_eq]

end

/-! ### A record out of judgement on request (R88, R89) -/

/-- Record `i` becomes `r` on a RETIRE or a SUSPEND: a ZERO it was pending in loses it as skipped, a SHUNT open on it ends
ABANDONED. -/
def gaugeLeft (i : Fin Config.gauges) (r : Gauge) (s : State) : State :=
  let t := if (gauge i s).zeroPending = true then leaveZero 1 false (gaugeMoved i r s) else gaugeMoved i r s
  if (gauge i s).shuntPending = true then endShunt i .abandoned t else t

/-- The event of a RETIRE or a SUSPEND at its record. -/
theorem applyEffect_left {r : Gauge} (h : r.zeroPending = false) :
    applyEffect i { gauge := r, shuntEnd := abandoned (gauge i s) } s = gaugeLeft i r s := by
  by_cases hs : (gauge i s).shuntPending = true <;> simp [applyEffect, gaugeLeft, abandoned, moveGauge_eq, h, hs]

/-- With no ZERO open there is none to leave. -/
theorem leaveZero_none {n : Nat} {zeroed : Bool} (h : s.gsc.zeroOp = none) : leaveZero n zeroed s = s := by
  simp only [leaveZero, h]

/-- A ZERO is left alike whatever SP holds. -/
theorem leaveZero_atOwner (code : Byte) (n : Nat) (zeroed : Bool) :
    leaveZero n zeroed (atOwner code s) = atOwner code (leaveZero n zeroed s) := by
  cases hz : s.gsc.zeroOp with
  | none => rw [leaveZero_none hz, leaveZero_none (s := atOwner code s) hz]
  | some z =>
    rcases Nat.lt_or_ge n z.pending with hn | hn
    · rw [leaveZero_goesOn hz hn, leaveZero_goesOn (s := atOwner code s) hz hn]; rfl
    · rw [leaveZero_last hz hn, leaveZero_last (s := atOwner code s) hz hn]; rfl

/-- A record leaves judgement alike whatever SP holds. -/
theorem gaugeLeft_atOwner (code : Byte) (r : Gauge) :
    gaugeLeft i r (atOwner code s) = atOwner code (gaugeLeft i r s) := by
  have hg : gauge i (atOwner code s) = gauge i s := rfl
  have hm : gaugeMoved i r (atOwner code s) = atOwner code (gaugeMoved i r s) := rfl
  simp only [gaugeLeft, hg, hm, leaveZero_atOwner]
  split <;> split <;> rfl

/-- A ZERO left keeps the channel map. -/
@[simp] theorem leaveZero_chanMap (n : Nat) (zeroed : Bool) :
    (leaveZero n zeroed s).gsc.chanMap = s.gsc.chanMap := by
  cases hz : s.gsc.zeroOp with
  | none => rw [leaveZero_none hz]
  | some z =>
    rcases Nat.lt_or_ge n z.pending with hn | hn
    · rw [leaveZero_goesOn hz hn]
    · rw [leaveZero_last hz hn]

/-- A record that leaves judgement keeps the channel map. -/
@[simp] theorem gaugeLeft_chanMap (r : Gauge) : (gaugeLeft i r s).gsc.chanMap = s.gsc.chanMap := by
  have hm : (gaugeMoved i r s).gsc.chanMap = s.gsc.chanMap := rfl
  unfold gaugeLeft
  split <;> split <;> simp [endShunt_eq, hm]

/-! ### RETIRE GAUGE (R88) -/

/-- Record `i` retired: VACANT, its key out of the map. -/
def gaugeRetired (i : Fin Config.gauges) (s : State) : State :=
  setMap (gauge i s).scanner (gauge i s).channel none (gaugeLeft i {} s)

/-- The retired record's key is the one entry of the map that changes. -/
theorem gaugeRetired_eq :
    gaugeRetired i s = { gaugeLeft i {} s with gsc := { (gaugeLeft i {} s).gsc with
      chanMap := s.gsc.chanMap.setD ((gauge i s).scanner.val * 128 + (gauge i s).channel.val) none } } := by
  simp [gaugeRetired, setMap, onGsc, mapKey]

/-- A record is retired alike whatever SP holds. -/
theorem gaugeRetired_atOwner (code : Byte) : gaugeRetired i (atOwner code s) = atOwner code (gaugeRetired i s) := by
  rw [gaugeRetired, gaugeLeft_atOwner]; rfl

/-- Refused for a VACANT record. -/
theorem takeRetireGauge_state (h : (gauge i s).state = .vacant) : takeRetireGauge i s = refuse s .state := if_pos h

/-- Taken for any open record. -/
theorem takeRetireGauge_done (h : (gauge i s).state ≠ .vacant) :
    takeRetireGauge i s = done (withAlertEdge s (gaugeRetired i s)) := by
  refine (if_neg h).trans ?_
  rw [alertEvent_eq, applyEffect_left rfl]; rfl

/-! ### SUSPEND GAUGE (R89) -/

/-- Refused for a record VACANT or SUSPENDED. -/
theorem takeSuspendGauge_state (h : (gauge i s).state = .vacant ∨ (gauge i s).state = .suspended) :
    takeSuspendGauge i s = refuse s .state := if_pos h

/-- Taken for any other record. -/
theorem takeSuspendGauge_done (hv : (gauge i s).state ≠ .vacant) (hs : (gauge i s).state ≠ .suspended) :
    takeSuspendGauge i s = done (withAlertEdge s (gaugeLeft i (gauge i s).suspended s)) := by
  refine (if_neg (not_or.2 ⟨hv, hs⟩)).trans ?_
  rw [alertEvent_eq, applyEffect_left rfl]

/-! ### WATCH GAUGE (R90) -/

/-- Refused outside SUSPENDED. -/
theorem takeWatchGauge_state (h : (gauge i s).state ≠ .suspended) : takeWatchGauge i s = refuse s .state := if_neg h

/-- Taken in SUSPENDED: the record as it enters judgement, its runs at 0. -/
theorem takeWatchGauge_done (h : (gauge i s).state = .suspended) :
    takeWatchGauge i s = done (gaugeMoved i
      { gauge i s with state := entryState (gauge i s).scanner s, overRun := 0, clearRun := 0 } s) := if_pos h

/-- Settles O48: each clause is one outcome of the request at GSC, which neither reads nor changes the slot. -/
theorem gaugeRequests : Obligations.GaugeRequests := by
  refine ⟨?openRange, ?openInRange, ?outOfRange, ?named⟩
  case openRange =>
    intro i0 i1 k ch x0 x1 s hp h
    exact hostRequest_answered hp rfl rfl (parseOpenGauge_range h)
  case openInRange =>
    intro i0 i1 k ch x0 x1 i sc c s hp hi hk hc hx key opened t
    have openAnswered : ∀ {r u}, takeOpenGauge i sc c (u16 x0 x1) (atOwner 0x60 s) = (atOwner 0x60 u, some r) →
        exec (.openGauge [6, i0, i1, k, ch, x0, x1]) s = .next (answered 0x60 r u) := fun ht =>
      hostRequest_answered hp rfl rfl ((parseOpenGauge_inRange hi hk hc hx).trans ht)
    refine ⟨fun hg => ?occupied, fun hg hm => ?keyInUse, fun hg hm => ?opened⟩
    case occupied => exact openAnswered (takeOpenGauge_occupied hg)
    case keyInUse => exact openAnswered (takeOpenGauge_keyInUse hg hm)
    case opened => exact openAnswered (takeOpenGauge_done hg hm)
  case outOfRange =>
    intro i0 i1 s hp hi
    exact ⟨wordRecordRequest_outOfRange hp rfl hi, wordRecordRequest_outOfRange hp rfl hi,
      wordRecordRequest_outOfRange hp rfl hi⟩
  case named =>
    intro i0 i1 i s hp hi g left suspended retired
    have hr : gaugeRetired i s = retired := gaugeRetired_eq
    refine ⟨fun h => ?retireState, fun h => ?retire, fun h => ?suspendState, fun hv hs => ?suspend,
      fun h => ?watchState, fun h => ?watch⟩
    case retireState => exact wordRecordRequest_answered hp rfl hi (takeRetireGauge_state h)
    case retire =>
      have taken := takeRetireGauge_done (s := atOwner 0x61 s) h
      rw [gaugeRetired_atOwner] at taken
      rw [← hr]
      exact wordRecordRequest_answered hp rfl hi taken
    case suspendState => exact wordRecordRequest_answered hp rfl hi (takeSuspendGauge_state h)
    case suspend =>
      have taken := takeSuspendGauge_done (s := atOwner 0x62 s) hv hs
      rw [gaugeLeft_atOwner] at taken
      exact wordRecordRequest_answered hp rfl hi taken
    case watchState => exact wordRecordRequest_answered hp rfl hi (takeWatchGauge_state h)
    case watch => exact wordRecordRequest_answered hp rfl hi (takeWatchGauge_done h)

end Sys2Proof.Machine
end

section
/-! ZERO and SHUNT (R98 to R100): the selection of a ZERO and what opening it does to each record, the outcome of each
request at GSC, check by check, and the answer it is given. -/
namespace Sys2Proof.Machine

variable {s : State} {i : Fin Config.gauges}

/-- The record numbers of a table, as the library lists them. -/
theorem indices_eq_finRange (n : Nat) : indices n = List.finRange n := by
  have hv : (indices n).map Fin.val = (List.finRange n).map Fin.val := by
    rw [indices, List.map_filterMap, List.map_coe_finRange_eq_range]
    refine (List.filterMap_congr fun x hx => ?_).trans List.filterMap_some
    simp [Table.index?_lt (List.mem_range.1 hx)]
  exact List.map_injective_iff.2 Fin.val_injective hv

/-- Counting over every record is counting over a list of those it can hold for. -/
theorem countP_finRange_eq {n : Nat} {sel : List (Fin n)} {p q : Fin n → Bool} (hn : sel.Nodup)
    (h : ∀ i, p i = true ↔ i ∈ sel ∧ q i = true) : (List.finRange n).countP p = sel.countP q := by
  rw [List.countP_eq_length_filter, List.countP_eq_length_filter]
  refine List.Perm.length_eq ((List.perm_ext_iff_of_nodup ((List.nodup_finRange n).filter p) (hn.filter q)).2 fun i => ?_)
  simp [List.mem_filter, h]

/-- A judged state, as the claims name it (R106). -/
theorem judged_iff {st : GaugeState} : st.judged = true ↔ st ∈ [.waiting, .quiet, .alert, .over] := by
  cases st <;> simp [GaugeState.judged]

/-- The sequencer at rest, as the claims name it. -/
theorem seqAtRest_iff : seqAtRest s = true ↔ s.lsq.seq = .idle ∨ s.lsq.seq = .ready ∨ s.lsq.seq = .halted := by
  simp [seqAtRest, or_assoc]

/-! ### The records of a ZERO (R98) -/

/-- A selected record the ZERO waits for: judged, its scanner link LIVE. -/
def joinsZero (s : State) (g : Gauge) : Bool := g.state.judged && decide ((scannerLink g.scanner s).state = .live)

/-- A selected record the ZERO counts as skipped: open, and not waited for. -/
def skipsZero (s : State) (g : Gauge) : Bool := decide (g.state ≠ .vacant) && !joinsZero s g

/-- The two tests of a record that joins. -/
theorem joinsZero_iff {g : Gauge} :
    joinsZero s g = true ↔ g.state.judged = true ∧ (scannerLink g.scanner s).state = .live := by simp [joinsZero]

/-- A VACANT record does not join. -/
theorem joinsZero_vacant {g : Gauge} (h : g.state = .vacant) : joinsZero s g = false := by
  simp [joinsZero, h, GaugeState.judged]

/-- One record is counted as pending, as skipped, or not at all. -/
theorem zeroJoin_eq (z : ZeroOp) (g : Gauge) :
    zeroJoin s z g = { z with
      pending := z.pending + if joinsZero s g then 1 else 0
      skipped := z.skipped + if skipsZero s g then 1 else 0 } := by
  by_cases hv : g.state = .vacant
  · simp [zeroJoin, skipsZero, joinsZero_vacant hv, hv]
  · by_cases hj : joinsZero s g = true
    · simp [zeroJoin, skipsZero, hv, hj, joinsZero_iff.1 hj]
    · rw [zeroJoin, if_neg hv, if_neg (mt joinsZero_iff.2 hj)]
      simp [skipsZero, hv, hj]

/-- The counts of a ZERO over its selection. -/
theorem foldl_zeroJoin (sel : List (Fin Config.gauges)) (z : ZeroOp) :
    sel.foldl (fun z i => zeroJoin s z (gauge i s)) z = { z with
      pending := z.pending + sel.countP fun i => joinsZero s (gauge i s)
      skipped := z.skipped + sel.countP fun i => skipsZero s (gauge i s) } := by
  induction sel generalizing z with
  | nil => rfl
  | cons x xs ih => rw [List.foldl_cons, ih, zeroJoin_eq]; simp [List.countP_cons]; omega

/-- A selected record differs in its zero pending alone. -/
theorem zeroMark_eq (g : Gauge) : zeroMark s g = { g with zeroPending := joinsZero s g || g.zeroPending } := by
  by_cases hj : joinsZero s g = true
  · rw [zeroMark, if_pos (joinsZero_iff.1 hj), hj]; rfl
  · rw [zeroMark, if_neg (mt joinsZero_iff.2 hj), Bool.eq_false_iff.2 hj]; rfl

/-- A record marked twice is as marked once. -/
theorem zeroMark_zeroMark (g : Gauge) : zeroMark s (zeroMark s g) = zeroMark s g := by
  have hj : joinsZero s (zeroMark s g) = joinsZero s g := by rw [zeroMark_eq]; rfl
  rw [zeroMark_eq (zeroMark s g), hj, zeroMark_eq]
  simp

/-- The gauge table with the records of a selection marked. -/
def zeroMarked (s : State) (sel : List (Fin Config.gauges)) (t : Table Gauge Config.gauges) :
    Table Gauge Config.gauges :=
  sel.foldl (fun t i => t.set i (zeroMark s (t.get i))) t

/-- Each selected record is marked, every other as it was. -/
theorem get_zeroMarked (sel : List (Fin Config.gauges)) (t : Table Gauge Config.gauges) :
    (zeroMarked s sel t).get i = if i ∈ sel then zeroMark s (t.get i) else t.get i := by
  induction sel generalizing t with
  | nil => rfl
  | cons x xs ih =>
    refine (ih _).trans ?_
    rw [Table.get_set]
    by_cases hx : i = x
    · subst hx
      simp [zeroMark_zeroMark]
    · simp [hx]

/-- The marking of a selection changes the gauge table alone. -/
theorem foldl_setGauge_zeroMark (sel : List (Fin Config.gauges)) (t : State) :
    sel.foldl (fun t i => setGauge i (zeroMark s (gauge i t)) t) t =
      { t with gsc := { t.gsc with gauges := zeroMarked s sel t.gsc.gauges } } := by
  induction sel generalizing t with
  | nil => rfl
  | cons x xs ih => rw [List.foldl_cons, ih]; rfl

/-! ### A ZERO opened (R98, R99) -/

/-- A ZERO opened over a selection with `pending` records waited for and `skipped` not: its records marked, complete at
once with none waited for. -/
def zeroOpened (sel : List (Fin Config.gauges)) (pending skipped : Nat) (s : State) : State :=
  { s with
    gsc := { s.gsc with
      gauges := zeroMarked s sel s.gsc.gauges
      zeroOp := if pending = 0 then none else some { pending := pending, zeroed := 0, skipped := skipped }
      lastZeroed := if pending = 0 then 0 else s.gsc.lastZeroed
      lastSkipped := if pending = 0 then skipped else s.gsc.lastSkipped }
    transit := s.transit ++ if pending = 0 then [.attentionEventReport .opDone] else [] }

/-- Everything the opening of a ZERO does. -/
theorem beginZero_eq (sel : List (Fin Config.gauges)) :
    beginZero sel s = zeroOpened sel (sel.countP fun i => joinsZero s (gauge i s))
      (sel.countP fun i => skipsZero s (gauge i s)) s := by
  simp only [beginZero, foldl_zeroJoin, foldl_setGauge_zeroMark, Nat.zero_add]
  generalize (sel.countP fun i => joinsZero s (gauge i s)) = pending
  by_cases hp : pending = 0
  · subst hp
    rw [if_pos rfl]
    exact leaveZero_last (z := ⟨0, 0, _⟩) rfl (Nat.le_refl 0)
  · simp [hp, zeroOpened, onGsc]

/-- Each record of an opened ZERO's selection is marked, every other as it was. -/
theorem gauge_zeroOpened (sel : List (Fin Config.gauges)) (pending skipped : Nat) :
    gauge i (zeroOpened sel pending skipped s) =
      { gauge i s with
        zeroPending := decide (i ∈ sel ∧ joinsZero s (gauge i s) = true) || (gauge i s).zeroPending } := by
  refine (get_zeroMarked sel s.gsc.gauges).trans ?_
  rw [zeroMark_eq]
  by_cases h : i ∈ sel <;> simp [h, gauge]

/-! ### The selection of a ZERO (R98) -/

/-- The records a ZERO selects: one, or those of the window; none where FFFFH finds no window over GAUGES. -/
def zeroSelection (sel : Nat) (s : State) : Option (List (Fin Config.gauges)) :=
  if sel = 0xFFFF then windowSelection s else (Table.index? Config.gauges sel).map fun i => [i]

/-- FFFFH without a window over GAUGES selects nothing. -/
theorem zeroSelection_noWindow (h : ∀ w, s.sp.window = some w → w.table ≠ .gauges) : zeroSelection 0xFFFF s = none := by
  refine (if_pos rfl).trans ?_
  unfold windowSelection
  split
  · next w hw => exact if_neg (h w hw)
  · rfl

/-- A selection from `lo` to `hi` holds each record between them once. -/
theorem zeroSelection_range {sel lo hi : Nat}
    (h : (sel < 512 ∧ lo = sel ∧ hi = sel) ∨
      (sel = 0xFFFF ∧ ∃ w, s.sp.window = some w ∧ w.table = .gauges ∧ lo = w.firstRec ∧ hi = w.lastRec)) :
    ∃ l, zeroSelection sel s = some l ∧ l.Nodup ∧ ∀ i, i ∈ l ↔ lo ≤ i.val ∧ i.val ≤ hi := by
  rcases h with ⟨hlt, hlo, hhi⟩ | ⟨rfl, w, hw, ht, rfl, rfl⟩
  · refine ⟨[⟨sel, hlt⟩], ?_, List.nodup_singleton _, fun i => ?_⟩
    · rw [zeroSelection, if_neg (by omega), Table.index?_lt hlt]; rfl
    · rw [List.mem_singleton, Fin.ext_iff]; dsimp only; omega
  · refine ⟨(indices 512).filter fun i => decide (w.firstRec ≤ i.val ∧ i.val ≤ w.lastRec), ?_,
      ((indices_eq_finRange 512).symm ▸ List.nodup_finRange 512).filter _, fun i => ?_⟩
    · rw [zeroSelection, if_pos rfl, windowSelection, hw]
      exact if_pos ht
    · simp [mem_indices]

/-! ### ZERO (R98) -/

/-- First check: FFFFH or a record's number. -/
theorem takeZero_range {sel : Nat} (hf : sel ≠ 0xFFFF) (hs : 512 ≤ sel) : takeZero sel s = refuse s .range :=
  if_pos ⟨hf, hs⟩

section
variable {sel : Nat} (hs : sel = 0xFFFF ∨ sel < 512)
include hs

/-- FFFFH and a record's number pass the first check. -/
theorem selection_inRange : ¬ (sel ≠ 0xFFFF ∧ Config.gauges ≤ sel) := fun ⟨hf, hg⟩ => hs.elim hf (Nat.not_lt.2 hg)

/-- Second check: the sequencer at rest. -/
theorem takeZero_loadOn (hr : ¬ seqAtRest s = true) : takeZero sel s = refuse s .loadOn := by
  rw [takeZero, if_neg (selection_inRange hs), if_pos (Bool.eq_false_iff.2 hr)]

/-- Third check: no ZERO open. -/
theorem takeZero_pending (hr : seqAtRest s = true) (hz : s.gsc.zeroOp.isSome = true) :
    takeZero sel s = refuse s .pending := by
  rw [takeZero, if_neg (selection_inRange hs), if_neg (by simp [hr]), if_pos hz]

/-- The outcome at rest with no ZERO open, by the selection. -/
theorem takeZero_selection (hr : seqAtRest s = true) (hz : s.gsc.zeroOp = none) :
    takeZero sel s = ((zeroSelection sel s).map fun l => started (beginZero l s)).getD (refuse s .state) := by
  rw [takeZero, if_neg (selection_inRange hs), if_neg (by simp [hr]), if_neg (by simp [hz])]
  unfold zeroSelection
  split
  · next l hl => rw [hl]; rfl
  · next hl => rw [hl]; rfl

/-- Fourth check: FFFFH with a window over GAUGES. -/
theorem takeZero_state (hr : seqAtRest s = true) (hz : s.gsc.zeroOp = none) (hl : zeroSelection sel s = none) :
    takeZero sel s = refuse s .state := by
  rw [takeZero_selection hs hr hz, hl]; rfl

/-- Every check passed: the ZERO opened over its selection. -/
theorem takeZero_started {l : List (Fin Config.gauges)} (hr : seqAtRest s = true) (hz : s.gsc.zeroOp = none)
    (hl : zeroSelection sel s = some l) :
    takeZero sel s = started (zeroOpened l (l.countP fun i => joinsZero s (gauge i s))
      (l.countP fun i => skipsZero s (gauge i s)) s) := by
  rw [takeZero_selection hs hr hz, hl, ← beginZero_eq]; rfl

end

/-! ### SHUNT (R100) -/

/-- First check: judged or FAULT(SHUNT), with a GOOD reading kept. -/
theorem takeShunt_state
    (h : ¬ (((gauge i s).state.judged = true ∨ (gauge i s).state = .fault .shunt) ∧ (gauge i s).lastGood ≠ none)) :
    takeShunt i s = refuse s .state := by
  refine if_pos ?_
  by_cases hg : (gauge i s).lastGood = none
  · exact .inr hg
  · exact .inl (by simpa [hg] using h)

section
variable (h : ((gauge i s).state.judged = true ∨ (gauge i s).state = .fault .shunt) ∧ (gauge i s).lastGood ≠ none)
include h

/-- The checks left: link, SHUNT open. -/
theorem takeShunt_able :
    takeShunt i s =
      if (scannerLink (gauge i s).scanner s).state ≠ .live then refuse s .link
      else if s.gsc.shuntOp.isSome then refuse s .pending
      else
        started (transmit (.scanner (gauge i s).scanner) (shuntUnit (gauge i s).channel.val)
          (onGsc (fun u => { u with
            gauges := u.gauges.set i { gauge i s with shuntPending := true }
            shuntOp := some { gauge := i, misses := 0 } }) s)) := by
  refine if_neg ?_
  rintro (⟨hj, hf⟩ | hg)
  · rcases h.1 with h | h
    · simp [h] at hj
    · exact hf h
  · exact h.2 hg

/-- Second check: the scanner link LIVE. -/
theorem takeShunt_link (hl : (scannerLink (gauge i s).scanner s).state ≠ .live) : takeShunt i s = refuse s .link := by
  rw [takeShunt_able h, if_pos hl]

/-- Last check: no SHUNT open. -/
theorem takeShunt_pending (hl : (scannerLink (gauge i s).scanner s).state = .live) (hn : s.gsc.shuntOp.isSome = true) :
    takeShunt i s = refuse s .pending := by
  rw [takeShunt_able h, if_neg (not_not.2 hl), if_pos hn]

/-- Every check passed: the scanner is sent its command, the record marked, the SHUNT open with no miss. -/
theorem takeShunt_started (hl : (scannerLink (gauge i s).scanner s).state = .live) (hn : s.gsc.shuntOp = none) :
    takeShunt i s = started { s with
      sent := s.sent ++ [⟨.scanner (gauge i s).scanner, shuntUnit (gauge i s).channel.val⟩]
      gsc := { s.gsc with
        gauges := s.gsc.gauges.set i { gauge i s with shuntPending := true }
        shuntOp := some { gauge := i, misses := 0 } } } := by
  rw [takeShunt_able h, if_neg (not_not.2 hl), if_neg (by simp [hn])]; rfl

end

/-- Settles O49: each clause is one outcome of the request at GSC; a ZERO's counts over its selection are those over all
records between its bounds. -/
theorem zeroAndShuntRequests : Obligations.ZeroAndShuntRequests := by
  unfold Obligations.ZeroAndShuntRequests
  intro judged
  have hj : ∀ g, judged g ↔ g.state.judged = true := fun g => judged_iff.symm
  refine ⟨?zero, ?shuntRange, ?shunt⟩
  case zero =>
    intro b0 b1 s hp sel atRest
    have hrest : atRest ↔ seqAtRest (atOwner 0x64 s) = true := seqAtRest_iff.symm
    rw [hrest]
    refine ⟨fun hf h => ?range, fun hs => ⟨fun hr => ?loadOn, fun hr hz => ?pending, fun hr hz hf hw => ?noWindow,
      fun hr hz lo hi hb => ?begun⟩⟩
    case range => exact wordRequest_answered hp rfl (takeZero_range hf h)
    case loadOn => exact wordRequest_answered hp rfl (takeZero_loadOn hs hr)
    case pending => exact wordRequest_answered hp rfl (takeZero_pending hs hr hz)
    case noWindow =>
      have none_selected : zeroSelection sel (atOwner 0x64 s) = none := hf ▸ zeroSelection_noWindow hw
      exact wordRequest_answered hp rfl (takeZero_state hs hr hz none_selected)
    case begun =>
      intro joins pending skipped
      obtain ⟨l, hl, hn, hm⟩ := zeroSelection_range (s := atOwner 0x64 s) hb
      have hjoins : ∀ i, joins i ↔ i ∈ l ∧ joinsZero s (gauge i s) = true := fun i => by
        simp only [joins, hm, joinsZero_iff, hj, and_assoc]
      have hpend : pending = l.countP fun i => joinsZero s (gauge i s) :=
        countP_finRange_eq hn fun i => by rw [decide_eq_true_iff, hjoins]
      have hskip : skipped = l.countP fun i => skipsZero s (gauge i s) :=
        countP_finRange_eq hn fun i => by
          rw [decide_eq_true_iff, hjoins, ← and_assoc, ← hm]
          by_cases h : i ∈ l <;> simp [h, skipsZero]
      refine ⟨zeroOpened l pending skipped s, ?_, rfl, fun i => ?_⟩
      · rw [hpend, hskip]
        exact wordRequest_answered hp rfl (takeZero_started hs hr hz hl)
      · rw [gauge_zeroOpened]
        simp only [hjoins]
  case shuntRange => exact fun b0 b1 s hp hi => wordRecordRequest_outOfRange hp rfl hi
  case shunt =>
    intro b0 b1 i s hp hi g able
    have hable : able ↔ (g.state.judged = true ∨ g.state = .fault .shunt) ∧ g.lastGood ≠ none := by
      simp only [able, hj]
    rw [hable]
    refine ⟨fun h => ?unable, fun h => ⟨fun hl => ?link, fun hl hn => ?shuntOpen, fun hl hn => ?started⟩⟩
    case unable => exact wordRecordRequest_answered hp rfl hi (takeShunt_state h)
    case link => exact wordRecordRequest_answered hp rfl hi (takeShunt_link h hl)
    case shuntOpen => exact wordRecordRequest_answered hp rfl hi (takeShunt_pending h hl hn)
    case started => exact wordRecordRequest_answered hp rfl hi (takeShunt_started h hl hn)

end Sys2Proof.Machine
end

section
/-! Judgement of a reading (R106 to R117): the bands as comparisons, the live extremes, the alert test, and what each
row of the table under R112 does to the record. -/
namespace Sys2Proof.Machine

variable {l : LimitSet} {g : Gauge} {x : Int}

/-! ### The bands (R109) and the live extremes (R116) -/

/-- A closed range as two comparisons. -/
theorem inRange_iff {lo hi : Int} : inRange lo hi x = true ↔ lo ≤ x ∧ x ≤ hi := by simp [inRange]

/-- Beyond a limit: strictly outside the limits. -/
theorem LimitSet.beyondLimit_iff : l.beyondLimit x = true ↔ l.upper < x ∨ x < l.lower := by simp [beyondLimit]

/-- Beyond an alert bound: strictly outside the alert bounds. -/
theorem LimitSet.beyondAlert_iff : l.beyondAlert x = true ↔ l.upperAlert < x ∨ x < l.lowerAlert := by
  simp [beyondAlert]

/-- The clear band: the limits drawn in by the hysteresis. -/
theorem LimitSet.inClear_iff : l.inClear x = true ↔ l.lower + l.hyst ≤ x ∧ x ≤ l.upper - l.hyst := inRange_iff

/-- The quiet band: the alert bounds drawn in by the hysteresis, no further than the centre. -/
theorem LimitSet.inQuiet_iff : l.inQuiet x = true ↔
    min l.centre (l.lowerAlert + l.hyst) ≤ x ∧ x ≤ max l.centre (l.upperAlert - l.hyst) := inRange_iff

/-- The live extremes become the greater and the lesser of the strain and what they held, or the strain alone. -/
theorem gaugeInterval_follow_eq (n : GaugeInterval) (x : Int) :
    n.follow x = { n with max := some (n.max.elim x (max x)), min := some (n.min.elim x (min x)) } := by
  have hmax : ∀ m, (if m < x then x else m) = max x m := fun m => by omega
  have hmin : ∀ m, (if x < m then x else m) = min x m := fun m => by omega
  cases hM : n.max <;> cases hm : n.min <;> simp [GaugeInterval.follow, hM, hm, hmax, hmin]

/-- The record as judgement hands it to the step of its state: extremes followed, mark cleared (R106, items 4 and 5). -/
def Gauge.followed (x : Int) (g : Gauge) : Gauge := { g with live := g.live.follow x, overHeld := false }

/-! ### The step below OVER (R110, R111) -/

/-- WAITING, QUIET and ALERT: the states stepped by R110 and R111. -/
def GaugeState.belowOver (st : GaugeState) : Prop := st = .waiting ∨ st = .quiet ∨ st = .alert

/-- The alert test gives ALERT beyond an alert bound, and in ALERT until the quiet band is reached. -/
theorem alertTest_eq (st : GaugeState) : alertTest l st x =
    if l.beyondAlert x = true ∨ (st = .alert ∧ ¬ l.inQuiet x = true) then .alert else .quiet := by
  by_cases ha : l.beyondAlert x = true <;> simp [alertTest, ha]

/-- Below OVER a reading takes the step of R110 and R111. -/
theorem judge_belowOver (flag : Bool) (value : Int) (h : g.state.belowOver) :
    judge flag value g = judgeBelow (g.chosenSet flag) (g.strain value) (g.followed (g.strain value)) := by
  rcases h with h | h | h <;> simp only [judge, h, Gauge.followed]

/-- Beyond a limit, the over run at the declare count: OVER is declared. -/
theorem judgeBelow_declares (hb : l.beyondLimit x = true) (hr : l.declare ≤ min 15 (g.overRun + 1)) :
    judgeBelow l x g = g.declareOver := by rw [judgeBelow, if_pos hb, if_pos hr]

/-- Beyond a limit, the over run still short of the declare count: it is counted, and the alert test follows. -/
theorem judgeBelow_counts (hb : l.beyondLimit x = true) (hr : min 15 (g.overRun + 1) < l.declare) :
    judgeBelow l x g = { g with overRun := min 15 (g.overRun + 1), state := alertTest l g.state x } := by
  rw [judgeBelow, if_pos hb, if_neg (Nat.not_le.2 hr)]

/-- Within the limits: the over run goes to 0, and the alert test follows. -/
theorem judgeBelow_within (hb : ¬ l.beyondLimit x = true) :
    judgeBelow l x g = { g with overRun := 0, state := alertTest l g.state x } := by rw [judgeBelow, if_neg hb]

/-! ### The step in OVER (R112) -/

/-- In OVER a reading takes the step of R112. -/
theorem judge_over (flag : Bool) (value : Int) (h : g.state = .over) :
    judge flag value g = judgeOver (g.chosenSet flag) (g.strain value) (g.followed (g.strain value)) := by
  simp only [judge, h, Gauge.followed]

/-- In the clear band, the clear run at the declare count: OVER is left for ALERT or QUIET. -/
theorem judgeOver_leaves (hc : l.inClear x = true) (hr : l.declare ≤ min 15 (g.clearRun + 1)) :
    judgeOver l x g =
      { g with overRun := 0, clearRun := 0, state := if l.beyondAlert x = true then .alert else .quiet } := by
  rw [judgeOver, if_pos hc, if_pos hr]

/-- In the clear band, the clear run still short of the declare count: it is counted. -/
theorem judgeOver_counts (hc : l.inClear x = true) (hr : min 15 (g.clearRun + 1) < l.declare) :
    judgeOver l x g = { g with clearRun := min 15 (g.clearRun + 1) } := by
  rw [judgeOver, if_pos hc, if_neg (Nat.not_le.2 hr)]

/-- Outside the clear band: the clear run goes to 0. -/
theorem judgeOver_outside (hc : ¬ l.inClear x = true) : judgeOver l x g = { g with clearRun := 0 } := by
  rw [judgeOver, if_neg hc]

/-! ### The claim -/

/-- Settles O52: the bands, the extremes and the alert test are put in the claim's words; each clause is then one row of
the step below OVER or of the step in OVER. -/
theorem judgementOfAReading : Obligations.JudgementOfAReading := by
  unfold Obligations.JudgementOfAReading
  intro flag value g l x c ua la beyond alert quiet clear followed run clearRun below tested
  have hbeyond : l.beyondLimit x = true ↔ beyond := LimitSet.beyondLimit_iff
  have halert : l.beyondAlert x = true ↔ alert := LimitSet.beyondAlert_iff
  have hquiet : l.inQuiet x = true ↔ quiet := LimitSet.inQuiet_iff
  have hclear : l.inClear x = true ↔ clear := LimitSet.inClear_iff
  have hfollowed : g.followed x = followed := by simp only [Gauge.followed, gaugeInterval_follow_eq, followed]
  have htested : alertTest l g.state x = tested := by simp only [alertTest_eq, halert, hquiet, tested]
  have hleft : (if l.beyondAlert x = true then GaugeState.alert else .quiet) = if alert then .alert else .quiet :=
    if_congr halert rfl rfl
  have judged_below : below → judge flag value g = judgeBelow l x followed := fun h =>
    hfollowed ▸ judge_belowOver flag value h
  have judged_over : g.state = .over → judge flag value g = judgeOver l x followed := fun h =>
    hfollowed ▸ judge_over flag value h
  refine ⟨fun h hb hr => ?declared, fun h hb hr => ?overCounted, fun h hb => ?within, fun h hc hr => ?left,
    fun h hc hr => ?clearCounted, fun h hc => ?outside⟩
  case declared => exact (judged_below h).trans (judgeBelow_declares (hbeyond.2 hb) hr)
  case overCounted => exact htested ▸ (judged_below h).trans (judgeBelow_counts (hbeyond.2 hb) hr)
  case within => exact htested ▸ (judged_below h).trans (judgeBelow_within (mt hbeyond.1 hb))
  case left => exact hleft ▸ (judged_over h).trans (judgeOver_leaves (hclear.2 hc) hr)
  case clearCounted => exact (judged_over h).trans (judgeOver_counts (hclear.2 hc) hr)
  case outside => exact (judged_over h).trans (judgeOver_outside (mt hclear.1 hc))

end Sys2Proof.Machine
end

section
/-! What every command does around its effect: the reset line guards it, the queue and the reset line stand, and the
attention line stays true to the latches and masks (R177, R181, R182). -/
namespace Sys2Proof.Machine

variable {s t u : State}

/-! ### The reset line guards every command but three -/

/-- Every command but the two of the reset line and a loop input change has no effect while the reset line is held. -/
theorem exec_eq_unlessHeld (c : Instr) (hd : c ≠ .deviceReset) (hr : c ≠ .resetRelease)
    (hl : ∀ l b, c ≠ .loopLineChange l b) : ∃ f, ∀ s, exec c s = .next (unlessHeld f s) := by
  cases c
  case deviceReset => exact absurd rfl hd
  case resetRelease => exact absurd rfl hr
  case loopLineChange l b => exact absurd rfl (hl l b)
  all_goals exact ⟨_, fun _ => rfl⟩

/-! ### What a command keeps of the port -/

/-- The attention line is asserted exactly while some latch is set with its mask clear (R177). -/
def LineTrue (sp : Sp) : Prop := sp.attnLine = lineAsserted sp.latches sp.masks

/-- From `s` to `t` the queue and the reset line stand, and the attention line stays true to the latches and masks. -/
structure PortKept (s t : State) : Prop where
  pending : t.pending = s.pending
  resetHeld : t.resetHeld = s.resetHeld
  line : LineTrue s.sp → LineTrue t.sp

theorem PortKept.refl (s : State) : PortKept s s := ⟨rfl, rfl, id⟩

theorem PortKept.trans (h : PortKept s t) (k : PortKept t u) : PortKept s u :=
  ⟨k.pending.trans h.pending, k.resetHeld.trans h.resetHeld, k.line ∘ h.line⟩

/-- A change that leaves all of the port keeps it. -/
theorem PortKept.of_portOf (h : portOf t = portOf s) : PortKept s t := by
  obtain ⟨hp, hr, -, hs⟩ : t.pending = s.pending ∧ t.resetHeld = s.resetHeld ∧ t.loopInputs = s.loopInputs ∧ t.sp = s.sp := by
    simpa [portOf] using h
  exact ⟨hp, hr, fun hl => hs ▸ hl⟩

/-- A change of SP that keeps the line true. -/
theorem PortKept.onSp {f : Sp → Sp} (h : LineTrue s.sp → LineTrue (f s.sp)) : PortKept s (onSp f s) := ⟨rfl, rfl, h⟩

/-- An evaluation makes the line true. -/
theorem lineTrue_evalLine (sp : Sp) : LineTrue (evalLine sp) := rfl

/-- A latch is set with an evaluation of the line. -/
theorem lineTrue_setLatch (i : Nat) (sp : Sp) : LineTrue (setLatch i sp) := rfl

/-- An edge sets its latch with an evaluation, or leaves the latches. -/
theorem lineTrue_applyEdge {c : CondClass} {e : Edge} {sp : Sp} (h : LineTrue sp) : LineTrue (applyEdge c e sp) := by
  unfold applyEdge
  dsimp only
  (repeat' split)
  · exact h
  · exact lineTrue_setLatch _ _
  · exact h

/-- A link report moves the lost-link set, with an edge of LINK_LOST or none. -/
theorem lineTrue_applyLinkReport {l : Link} {lost : Bool} {sp : Sp} (h : LineTrue sp) :
    LineTrue (applyLinkReport l lost sp) := by
  unfold applyLinkReport
  dsimp only
  (repeat' split)
  · exact lineTrue_applyEdge h
  · exact lineTrue_applyEdge h
  · exact h

/-! ### The shared forms of a command -/

/-- An answer setting out. -/
theorem PortKept.postTaken (code : Byte) (x : Taken) : PortKept x.1 (postTaken code x) := by
  unfold Machine.postTaken
  split
  · exact ⟨rfl, rfl, id⟩
  · exact .refl _

/-- A guarded effect keeps what the effect keeps. -/
theorem PortKept.unlessHeld {f : State → State} (h : ∀ s, PortKept s (f s)) (s : State) :
    PortKept s (unlessHeld f s) := by
  unfold Machine.unlessHeld
  split
  · exact .refl s
  · exact h s

/-- A message's arrival keeps what its effect keeps. -/
theorem PortKept.arrival {m : Instr} {f : State → State} (h : ∀ s, PortKept s (f s)) (s : State) :
    PortKept s (Machine.unlessHeld (fun s => f (arrive m s)) s) :=
  .unlessHeld (fun s => (PortKept.of_portOf (s := s) (portOf_arrive m)).trans (h _)) s

/-- A request discarded: its latch is set with an evaluation of the line. -/
theorem PortKept.discardRequest (s : State) : PortKept s (discardRequest s) := .onSp fun _ => lineTrue_setLatch _ _

/-- A host request keeps what its owner keeps. -/
theorem PortKept.request {code : Byte} {keeps : Bool} {take : List Byte → State → Taken}
    (h : ∀ ps s, PortKept s (take ps s).1) (tail : List Byte) (s : State) :
    PortKept s (Machine.unlessHeld (portFrame code keeps take tail) s) := by
  refine .unlessHeld (fun s => ?_) s
  have occupied : PortKept s (occupySlot code s) := ⟨rfl, rfl, id⟩
  have ended : PortKept s (endAmend (occupySlot code s)) := ⟨rfl, rfl, id⟩
  unfold portFrame
  split
  · exact .discardRequest s
  · split
    · exact ended.trans (.postTaken code (refuse (endAmend (occupySlot code s)) .format))
    · refine PortKept.trans ?_ ((h _ _).trans (.postTaken code _))
      split
      · exact occupied
      · exact ended

/-- Requests without parameters. -/
theorem PortKept.noParams {f : State → Taken} (h : ∀ s, PortKept s (f s).1) (ps : List Byte) (s : State) :
    PortKept s (noParams f ps s).1 := by
  unfold Machine.noParams
  split
  · exact h s
  · exact .refl s

/-- Requests with one byte of parameters. -/
theorem PortKept.oneByte {f : Nat → State → Taken} (h : ∀ n s, PortKept s (f n s).1) (ps : List Byte) (s : State) :
    PortKept s (oneByte f ps s).1 := by
  unfold Machine.oneByte
  split
  · exact h _ s
  · exact .refl s

/-- Requests with one two-byte parameter. -/
theorem PortKept.oneWord {f : Nat → State → Taken} (h : ∀ n s, PortKept s (f n s).1) (ps : List Byte) (s : State) :
    PortKept s (oneWord f ps s).1 := by
  unfold Machine.oneWord
  split
  · exact h _ s
  · exact .refl s

/-- Requests that name a record. -/
theorem PortKept.indexed {n : Nat} {f : Fin n → State → Taken} (h : ∀ i s, PortKept s (f i s).1) (i : Nat) (s : State) :
    PortKept s (indexed f i s).1 := by
  unfold Machine.indexed
  split
  · exact h _ s
  · exact .refl s

/-! ### The events at SP -/

/-- SP's owners put a question each: only the request they answer is recorded. -/
theorem PortKept.asking (g : Gather) (s : State) : PortKept s (asking g s).1 := ⟨rfl, rfl, id⟩

/-- SET WINDOW. -/
theorem PortKept.takeSetWindow (ps : List Byte) (s : State) : PortKept s (takeSetWindow ps s).1 := by
  unfold Machine.takeSetWindow
  dsimp only
  (repeat' split)
  · exact ⟨rfl, rfl, id⟩
  all_goals exact .refl s

/-- The pointer moved. -/
theorem PortKept.setTheWindow (w : Window) (s : State) : PortKept s (setTheWindow w s) := ⟨rfl, rfl, id⟩

/-- READ DATA. -/
theorem PortKept.takeReadData (n : Nat) (s : State) : PortKept s (takeReadData n s).1 := by
  have moved : ∀ w t, PortKept t (if s.sp.amend then t else Machine.setTheWindow w t) := fun w t => by
    split
    · exact .refl t
    · exact .setTheWindow w t
  unfold Machine.takeReadData
  split
  · exact .refl s
  · split
    · exact .refl s
    · dsimp only
      split
      · exact (moved _ s).trans (.asking _ _)
      · exact (PortKept.of_portOf (portOf_readCells _ _)).trans (moved _ _)

/-- WRITE DATA. -/
theorem PortKept.takeWriteData (ps : List Byte) (s : State) : PortKept s (takeWriteData ps s).1 := by
  unfold Machine.takeWriteData
  (repeat' split)
  · exact .refl s
  · exact .refl s
  · exact (PortKept.setTheWindow _ s).trans (.asking _ _)
  · exact (PortKept.of_portOf (by simp)).trans (.setTheWindow _ _)

/-- AMEND ON. -/
theorem PortKept.takeAmendOn (s : State) : PortKept s (takeAmendOn s).1 := by
  unfold Machine.takeAmendOn
  split
  · exact ⟨rfl, rfl, id⟩
  · exact .refl s

/-- SET ATTENTION: new masks, and the line evaluated. -/
theorem PortKept.takeSetAttention (ps : List Byte) (s : State) : PortKept s (takeSetAttention ps s).1 := by
  unfold Machine.takeSetAttention
  (repeat' split)
  · exact .refl s
  · exact .onSp fun _ => lineTrue_evalLine _
  · exact .refl s

/-- RESTART: the latches cleared, and the line evaluated. -/
theorem PortKept.takeRestart (s : State) : PortKept s (takeRestart s).1 := by
  unfold Machine.takeRestart
  split
  · exact (PortKept.onSp fun _ => lineTrue_evalLine { s.sp with latches := 0 }).trans (.of_portOf (portOf_sendAll _))
  · exact .refl s

/-- A block's part of a RESTART done. -/
theorem PortKept.takePartDone (b : Block) (s : State) : PortKept s (takePartDone b s) := by
  unfold Machine.takePartDone
  (repeat' split)
  · exact .refl s
  · exact ⟨rfl, rfl, id⟩
  · exact .onSp id

/-- A frame of no request code. -/
theorem PortKept.takeUnknown (code : Byte) (tail : List Byte) (s : State) : PortKept s (takeUnknown code tail s) := by
  unfold Machine.takeUnknown
  split
  · exact .discardRequest s
  · exact ⟨rfl, rfl, id⟩

/-- A report reaching SP. -/
theorem PortKept.takeSpReport (m : Instr) (s : State) : PortKept s (takeSpReport m s) := by
  unfold Machine.takeSpReport
  split
  · exact .onSp fun _ => lineTrue_setLatch _ _
  · exact .onSp lineTrue_applyEdge
  · exact .onSp lineTrue_applyLinkReport
  · exact .refl s

/-- An owner's event for a request put to several. -/
theorem PortKept.ownerEvent (b : Block) (op : GatherOp) (s : State) : PortKept s (ownerEvent b op s).1 := by
  cases op with
  | status g =>
    exact takeSent_keeps (P := PortKept s)
      (fun m t _ h => (h.trans (.of_portOf (portOf_arrive m))).trans (.takeSpReport m _)) (.refl s)
  | read cells => exact .refl s
  | write claims => exact .of_portOf (portOf_takeSettingClaims b claims)

/-- An owner's answer in at SP. -/
theorem PortKept.gatherOn (g : Gather) (s : State) : PortKept s (gatherOn g s) := by
  unfold Machine.gatherOn
  split
  · exact ⟨rfl, rfl, id⟩
  · exact .onSp id

/-- An answer to the slot, an owner's share of it or the whole. -/
theorem PortKept.takeAnswerOf (owner : Option Block) (s : State) : PortKept s (takeAnswerOf owner s) := by
  cases owner with
  | none =>
    show PortKept s (takeAnswer s)
    unfold takeAnswer
    split
    · exact .refl s
    · exact .onSp id
  | some b =>
    show PortKept s (takeOwnerAnswer b s)
    unfold takeOwnerAnswer
    (repeat' split)
    · exact .refl s
    · exact (PortKept.ownerEvent b _ s).trans (.gatherOn _ _)
    · exact .refl s

/-- A loop input change. -/
theorem PortKept.takeLineChange (l : Fin Config.loops) (closed : Bool) (s : State) :
    PortKept s (takeLineChange l closed s) :=
  PortKept.trans (t := setLoopInput l closed s) ⟨rfl, rfl, id⟩ (.unlessHeld (fun _ => .of_portOf (portOf_setLoop l _)) _)

/-- Every command but those of the reset line keeps the queue, the reset line and a true attention line. -/
theorem exec_portKept (c : Instr) (hd : c ≠ .deviceReset) (hr : c ≠ .resetRelease) (s : State) :
    ∃ t, exec c s = .next t ∧ PortKept s t := by
  have owner : ∀ {f : State → State}, (∀ s, portOf (f s) = portOf s) → ∀ s, PortKept s (f s) := fun h s => .of_portOf (h s)
  cases c
  case deviceReset => exact absurd rfl hd
  case resetRelease => exact absurd rfl hr
  case fetch n => exact ⟨_, rfl, .unlessHeld (fun s => .onSp id) s⟩
  case status => exact ⟨_, rfl, .request (.noParams fun s => .asking _ s) _ s⟩
  case readAttention => exact ⟨_, rfl, .request (.noParams fun s => ⟨rfl, rfl, fun _ => lineTrue_evalLine _⟩) _ s⟩
  case setAttention => exact ⟨_, rfl, .request .takeSetAttention _ s⟩
  case restart => exact ⟨_, rfl, .request (.noParams .takeRestart) _ s⟩
  case setWindow => exact ⟨_, rfl, .request .takeSetWindow _ s⟩
  case readData => exact ⟨_, rfl, .request (.oneByte .takeReadData) _ s⟩
  case writeData => exact ⟨_, rfl, .request .takeWriteData _ s⟩
  case amendOn => exact ⟨_, rfl, .request (.noParams .takeAmendOn) _ s⟩
  case amendOff => exact ⟨_, rfl, .request (.noParams fun s => ⟨rfl, rfl, id⟩) _ s⟩
  case unknown code tail => exact ⟨_, rfl, .unlessHeld (.takeUnknown code tail) s⟩
  case answerToSlot owner => exact ⟨_, rfl, .arrival (.takeAnswerOf owner) s⟩
  case attentionEventReport c => exact ⟨_, rfl, .arrival (fun s => .takeSpReport (.attentionEventReport c) s) s⟩
  case conditionEdgeReport c e => exact ⟨_, rfl, .arrival (fun s => .takeSpReport (.conditionEdgeReport c e) s) s⟩
  case linkReport l lost => exact ⟨_, rfl, .arrival (fun s => .takeSpReport (.linkReport l lost) s) s⟩
  case restartPartDone b => exact ⟨_, rfl, .arrival (.takePartDone b) s⟩
  case loopLineChange l b => exact ⟨_, rfl, .takeLineChange l b s⟩
  case arm | start | halt | stopNow | resume | rest | disarm | trimUp | trimDown | closeInterval | clearPasses |
      commitBank | swapBank | cancelSwap =>
    exact ⟨_, rfl, .request (.noParams (owner fun _ => by simp)) _ s⟩
  case setScale => exact ⟨_, rfl, .request (.oneByte fun n => owner fun _ => portOf_takeSetScale n) _ s⟩
  case zero => exact ⟨_, rfl, .request (.oneWord fun n => owner fun _ => portOf_takeZero n) _ s⟩
  case enableActuator | disableActuator | clearFault | enableLoop | rearmLoop | disableLoop | confirmCrack |
      arrestCrack | retireCrack =>
    exact ⟨_, rfl, .request (.oneByte (.indexed fun _ => owner fun _ => by simp)) _ s⟩
  case retireGauge | suspendGauge | watchGauge | shunt =>
    exact ⟨_, rfl, .request (.oneWord (.indexed fun _ => owner fun _ => by simp)) _ s⟩
  case find | rezone | setZoneDerate | openGauge | openCrack =>
    exact ⟨_, rfl, .request (fun _ => owner fun _ => by simp) _ s⟩
  case report | reportTimerExpiry | settleTimerExpiry | freeTimerExpiry | dwellTimerExpiry | scanFrame |
      scannerLinkTimerExpiry | confirmTimerExpiry | hit =>
    exact ⟨_, rfl, .unlessHeld (owner fun _ => by simp) s⟩
  all_goals exact ⟨_, rfl, .arrival (owner fun _ => by simp) s⟩

/-- Every command that moves the reset line leaves the queue. -/
theorem exec_resetLine_pending {c : Instr} (h : c = .deviceReset ∨ c = .resetRelease) (s : State) :
    ∃ t, exec c s = .next t ∧ t.pending = s.pending := by
  rcases h with rfl | rfl
  · exact ⟨_, rfl, rfl⟩
  · refine ⟨_, rfl, ?_⟩
    unfold takeResetRelease
    split <;> rfl

/-- Settles O2: the commands of the reset line apart, each keeps the queue by `exec_portKept`. -/
theorem everyCommandAnswersANextState : Obligations.EveryCommandAnswersANextState := by
  intro c s
  by_cases h : c = .deviceReset ∨ c = .resetRelease
  · exact exec_resetLine_pending h s
  · obtain ⟨hd, hr⟩ := not_or.1 h
    obtain ⟨t, ht, hk⟩ := exec_portKept c hd hr s
    exact ⟨t, ht, hk.pending⟩

/-! ### One step -/

/-- What every command keeps, and what does not read the queue, every step keeps. -/
theorem step_keeps {P : State → Prop} (hq : ∀ s rest, P s → P { s with pending := rest })
    (hc : ∀ c s t, P s → exec c s = .next t → P t) (h : P s) (ht : step s = .next t) : P t := by
  unfold step at ht
  split at ht
  · exact hc _ _ _ (hq _ _ h) ht
  · split at ht
    · exact hc _ _ _ h ht
    · cases ht
      exact h

/-- Settles O1, by the cases of the queue and of the messages in transit. -/
theorem stepTakesTheFrontCommand : Obligations.StepTakesTheFrontCommand := by
  refine ⟨fun c s => rfl, fun s hp => ⟨fun m ms ht => ?_, fun ht => ?_⟩⟩
  · simp only [step, hp, ht]
  · simp only [step, hp, ht]

/-! ### The reset line (R126, R181) -/

/-- A record written by each of a list of numbers with what `f` makes of it: each number listed once or more reads so
where a second writing changes nothing. -/
theorem get_foldl_set {α : Type} {n : Nat} (f : Fin n → α → α) (hf : ∀ i x, f i (f i x) = f i x) (is : List (Fin n))
    (t : Table α n) (j : Fin n) :
    (is.foldl (fun t i => t.set i (f i (t.get i))) t).get j = if j ∈ is then f j (t.get j) else t.get j := by
  induction is generalizing t with
  | nil => rfl
  | cons i is ih =>
    rw [List.foldl_cons, ih, Table.get_set]
    by_cases hj : j = i
    · subst hj
      simp [hf]
    · simp [hj]

/-- While the line is held a command that is none of the reset line or a loop input changes nothing. -/
theorem exec_held {c : Instr} (hs : s.resetHeld = true) (hd : c ≠ .deviceReset) (hr : c ≠ .resetRelease)
    (hl : ∀ l b, c ≠ .loopLineChange l b) : exec c s = .next s := by
  obtain ⟨f, hf⟩ := exec_eq_unlessHeld c hd hr hl
  rw [hf, unlessHeld_held f hs]

/-- While the line is held a loop input change moves its level alone. -/
theorem exec_loopLineChange_held {l : Fin Config.loops} {b : Bool} (hs : s.resetHeld = true) :
    exec (.loopLineChange l b) s = .next { s with loopInputs := s.loopInputs.set l b } :=
  congrArg Host.Outcome.next (unlessHeld_held (s := setLoopInput l b s) _ hs)

/-- The line-closed flags read from the inputs, record by record. -/
theorem readLoopInputs_get (l : Fin Config.loops) :
    (readLoopInputs s).cwu.loops.get l = { s.cwu.loops.get l with closed := s.loopInputs.get l } := by
  have h := get_foldl_set (fun l r => { r with closed := s.loopInputs.get l }) (fun _ _ => rfl)
    (indices Config.loops) s.cwu.loops l
  rw [if_pos (mem_indices l)] at h
  exact h

/-- Releasing a held line reads the loop inputs. -/
theorem takeResetRelease_held (hs : s.resetHeld = true) :
    takeResetRelease s = readLoopInputs { s with resetHeld := false } := if_pos hs

/-- Releasing a line not held changes nothing. -/
theorem takeResetRelease_free (hs : s.resetHeld = false) : takeResetRelease s = s := if_neg (by simp [hs])

/-- Settles O3: the guard of every command, the two commands of the line, and a loop input. -/
theorem resetLine : Obligations.ResetLine := by
  refine ⟨⟨fun c s hs hd hr hl => exec_held hs hd hr hl, fun l b s hs => exec_loopLineChange_held hs⟩, fun s => rfl,
    fun s hs => ⟨_, rfl, ?_, fun l => ?_⟩, fun s hs => congrArg _ (takeResetRelease_free hs)⟩
  · rw [takeResetRelease_held hs]; rfl
  · rw [takeResetRelease_held hs]; exact readLoopInputs_get l

/-! ### The attention line (R177) -/

/-- Outside reset the attention line is as the latches and masks make it. -/
theorem attentionTrue_free (hs : s.resetHeld = false) : AttentionTrue s ↔ LineTrue s.sp := by
  simp [AttentionTrue, LineTrue, hs]

/-- While the reset line is held the attention line is released and no latch is set. -/
theorem attentionTrue_held (hs : s.resetHeld = true) :
    AttentionTrue s ↔ s.sp.attnLine = false ∧ s.sp.latches = 0 := by
  simp [AttentionTrue, hs]

/-- No command but those of the reset line changes SP while that line is held. -/
theorem exec_held_port {c : Instr} (hs : s.resetHeld = true) (hd : c ≠ .deviceReset) (hr : c ≠ .resetRelease)
    (ht : exec c s = .next t) : t.resetHeld = true ∧ t.sp = s.sp := by
  by_cases hl : ∃ l b, c = .loopLineChange l b
  · obtain ⟨l, b, rfl⟩ := hl
    cases (exec_loopLineChange_held hs).symm.trans ht
    exact ⟨hs, rfl⟩
  · cases (exec_held hs hd hr fun l b h => hl ⟨l, b, h⟩).symm.trans ht
    exact ⟨hs, rfl⟩

/-- Releasing the reset line leaves a true attention line: no latch was set. -/
theorem takeResetRelease_attentionTrue (h : AttentionTrue s) : AttentionTrue (takeResetRelease s) := by
  cases hs : s.resetHeld with
  | false => rwa [takeResetRelease_free hs]
  | true =>
    obtain ⟨ha, hl⟩ := (attentionTrue_held hs).1 h
    rw [takeResetRelease_held hs]
    refine (attentionTrue_free rfl).2 ?_
    show s.sp.attnLine = lineAsserted s.sp.latches s.sp.masks
    simp [ha, hl, lineAsserted]

/-- Every command keeps the attention line true. -/
theorem exec_attentionTrue (c : Instr) (s t : State) (h : AttentionTrue s) (ht : exec c s = .next t) :
    AttentionTrue t := by
  by_cases hd : c = .deviceReset
  · subst hd
    cases ht
    exact (attentionTrue_held rfl).2 ⟨rfl, rfl⟩
  by_cases hr : c = .resetRelease
  · subst hr
    cases ht
    exact takeResetRelease_attentionTrue h
  cases hs : s.resetHeld with
  | true =>
    obtain ⟨hh, hsp⟩ := exec_held_port hs hd hr ht
    exact (attentionTrue_held hh).2 (hsp ▸ (attentionTrue_held hs).1 h)
  | false =>
    obtain ⟨u, hu, hk⟩ := exec_portKept c hd hr s
    cases hu.symm.trans ht
    exact (attentionTrue_free (hk.resetHeld.trans hs)).2 (hk.line ((attentionTrue_free hs).1 h))

/-- Settles O11: no command breaks the line, and the queue has no part in it. -/
theorem attentionLineStaysTrue : Obligations.AttentionLineStaysTrue := fun _ _ h ht =>
  step_keeps (fun _ _ h => h) exec_attentionTrue h ht

end Sys2Proof.Machine
end

section
/-! The frames of the requests: read back (11.1, 11.2), and refused by their form (R167, R195). -/
namespace Sys2Proof.Machine

variable {s : State}

/-- Every command's frame, where it has one, reads back as the command. -/
theorem frame_readsBack (c : Instr) : Laws.RoundTrip.Statement c := by
  cases c
  case fetch n => exact Laws.RoundTrip.fetch n
  case unknown code tail => exact Laws.RoundTrip.unknown code tail
  all_goals first
    | exact Laws.RoundTrip.of_none rfl
    | exact Laws.RoundTrip.of_row rfl rfl

/-- Settles O60. -/
theorem framesReadBack : Obligations.FramesReadBack := fun c frame hw he => frame_readsBack c hw frame he

/-! ### Parameters of a wrong length (R195) -/

/-- The outcome of a request that keeps AMEND, at its owner, is its outcome at the part. -/
theorem hostRequestKeepingAmend_answered {code : Byte} {r : Reply} {t : State} {take : List Byte → State → Taken}
    {tail params : List Byte} (h : PortFree s) (k : keepsAmend code = true) (hf : frameParams tail = some params)
    (ht : take params (atOwner code s) = (atOwner code t, some r)) :
    hostRequestKeepingAmend code take tail s = .next (answered code r t) := by
  rw [hostRequestKeepingAmend_at take h k hf, ht]; rfl

/-- Parameters where none are asked for. -/
theorem noParams_format {f : State → Taken} {ps : List Byte} (h : ps.length ≠ 0) : noParams f ps s = refuse s .format := by
  unfold noParams
  split
  · exact absurd rfl h
  · rfl

/-- Parameters of any length but one byte. -/
theorem oneByte_format {f : Nat → State → Taken} {ps : List Byte} (h : ps.length ≠ 1) :
    oneByte f ps s = refuse s .format := by
  unfold oneByte
  split
  · exact absurd rfl h
  · rfl

/-- Parameters of any length but two bytes. -/
theorem oneWord_format {f : Nat → State → Taken} {ps : List Byte} (h : ps.length ≠ 2) :
    oneWord f ps s = refuse s .format := by
  unfold oneWord
  split
  · exact absurd rfl h
  · rfl

/-- SET ATTENTION carries three bytes. -/
theorem takeSetAttention_format {ps : List Byte} (h : ps.length ≠ 3) : takeSetAttention ps s = refuse s .format := by
  unfold takeSetAttention
  split
  · exact absurd rfl h
  · rfl

/-- SET WINDOW carries twelve bytes. -/
theorem takeSetWindow_format {ps : List Byte} (h : ps.length ≠ 12) : takeSetWindow ps s = refuse s .format := by
  unfold takeSetWindow
  split
  · exact absurd rfl h
  · rfl

/-- FIND carries twelve bytes. -/
theorem takeFind_format {ps : List Byte} (h : ps.length ≠ 12) : takeFind ps s = refuse s .format := by
  unfold takeFind
  split
  · exact absurd rfl h
  · rfl

/-- SET ZONE DERATE carries two bytes. -/
theorem takeSetZoneDerate_format {ps : List Byte} (h : ps.length ≠ 2) :
    takeSetZoneDerate ps s = refuse s .format := by
  unfold takeSetZoneDerate
  split
  · exact absurd rfl h
  · rfl

/-- OPEN GAUGE carries six bytes. -/
theorem parseOpenGauge_format {ps : List Byte} (h : ps.length ≠ 6) : parseOpenGauge ps s = refuse s .format := by
  unfold parseOpenGauge
  split
  · exact absurd rfl h
  · rfl

/-- OPEN CRACK carries eight bytes. -/
theorem parseOpenCrack_format {ps : List Byte} (h : ps.length ≠ 8) : parseOpenCrack ps s = refuse s .format := by
  unfold parseOpenCrack
  split
  · exact absurd rfl h
  · rfl

/-- WRITE DATA carries one value or more, four bytes each. -/
theorem takeWriteData_format {ps : List Byte} (h : ps = [] ∨ ps.length % 4 ≠ 0) :
    takeWriteData ps s = refuse s .format := if_pos h

/-- A REZONE carries its zone count and, unless that is 0, as many stations less one. -/
theorem takeRezone_format {ps : List Byte}
    (h : ps = [] ∨ ((ps.headD 0).toNat ≠ 0 ∧ ps.length ≠ 1 + 2 * ((ps.headD 0).toNat - 1))) :
    takeRezone ps s = refuse s .format := by
  cases ps with
  | nil => rfl
  | cons n rest =>
    obtain ⟨hn, hl⟩ : n.toNat ≠ 0 ∧ rest.length ≠ 2 * (n.toNat - 1) := by simpa [Nat.add_comm] using h
    rw [takeRezone, if_neg hn, if_pos hl]

/-- Where the length is wrong the owner's first answer is FORMAT, whatever the request. -/
theorem exec_lengthWrong {c : Instr} {code : Byte} {tail params : List Byte}
    (he : encodeFrame c = some (code :: tail)) (h0 : code ≠ 0x00) (hk : requestCodes.contains code.toNat = true)
    (hp : PortFree s) (hf : frameParams tail = some params) (hl : lengthRight code params = false) (hw : c.wf = true) :
    exec c s = .next (answered code (refusedFor .format) s) := by
  cases c
  case unknown =>
    obtain ⟨rfl, rfl⟩ : _ = code ∧ _ = tail := by simpa [encodeFrame] using he
    simp [Instr.wf] at hw
    simp [hw] at hk
  case fetch =>
    have h : (0x00 : Byte) = code := (List.cons.inj (Option.some.inj he)).1
    exact absurd h.symm h0
  all_goals try cases he
  case status | readAttention | restart | amendOff | arm | start | halt | stopNow | resume | rest | disarm | trimUp |
      trimDown | closeInterval | clearPasses | commitBank | swapBank | cancelSwap =>
    exact hostRequest_answered hp rfl hf (noParams_format (by simpa [lengthRight] using hl))
  case amendOn => exact hostRequestKeepingAmend_answered hp rfl hf (noParams_format (by simpa [lengthRight] using hl))
  case readData => exact hostRequestKeepingAmend_answered hp rfl hf (oneByte_format (by simpa [lengthRight] using hl))
  case setScale | enableActuator | disableActuator | clearFault | enableLoop | rearmLoop | disableLoop | confirmCrack |
      arrestCrack | retireCrack =>
    exact hostRequest_answered hp rfl hf (oneByte_format (by simpa [lengthRight] using hl))
  case retireGauge | suspendGauge | watchGauge | zero | shunt =>
    exact hostRequest_answered hp rfl hf (oneWord_format (by simpa [lengthRight] using hl))
  case setAttention => exact hostRequest_answered hp rfl hf (takeSetAttention_format (by simpa [lengthRight] using hl))
  case setWindow => exact hostRequest_answered hp rfl hf (takeSetWindow_format (by simpa [lengthRight] using hl))
  case find => exact hostRequest_answered hp rfl hf (takeFind_format (by simpa [lengthRight] using hl))
  case setZoneDerate => exact hostRequest_answered hp rfl hf (takeSetZoneDerate_format (by simpa [lengthRight] using hl))
  case openGauge => exact hostRequest_answered hp rfl hf (parseOpenGauge_format (by simpa [lengthRight] using hl))
  case openCrack => exact hostRequest_answered hp rfl hf (parseOpenCrack_format (by simpa [lengthRight] using hl))
  case writeData =>
    refine hostRequestKeepingAmend_answered hp rfl hf (takeWriteData_format ?_)
    by_cases h4 : 4 ≤ params.length
    · exact .inr (by simpa [lengthRight, h4] using hl)
    · rcases params with _ | ⟨b, bs⟩
      · exact .inl rfl
      · refine .inr ?_
        simp only [List.length_cons] at h4 ⊢
        omega
  case rezone =>
    refine hostRequest_answered hp rfl hf (takeRezone_format ?_)
    by_cases hn : params = []
    · exact .inl hn
    · obtain ⟨h0, h1⟩ : params.headD 0 ≠ 0 ∧ params.length ≠ 1 + 2 * ((params.headD 0).toNat - 1) := by
        simpa [lengthRight, hn] using hl
      exact .inr ⟨fun h => h0 (BitVec.eq_of_toNat_eq h), h1⟩

/-- A frame of a wrong outer form is refused with FORMAT, whatever its code, and ends AMEND. -/
theorem exec_malformed {c : Instr} {code : Byte} {tail : List Byte} (he : encodeFrame c = some (code :: tail))
    (hc : code ≠ 0x00) (hp : PortFree s) (hf : frameParams tail = none) :
    exec c s = .next (answered code (refusedFor .format) { s with sp := { s.sp with amend := false } }) := by
  obtain ⟨hr, hw⟩ := hp
  have ended : postAnswer code (refusedFor .format) (endAmend (occupySlot code s)) =
      answered code (refusedFor .format) { s with sp := { s.sp with amend := false } } := by
    rw [postAnswer_eq, answered_eq]
    simp [atOwner, endAmend, occupySlot, onSp]
  rcases exec_of_frame he hc with ⟨k, take, h⟩ | rfl
  · rw [h, unlessHeld_free _ hr, portFrame_malformed code k take hw hf]
    exact congrArg _ ended
  · show Host.Outcome.next (unlessHeld (takeUnknown code tail) s) = _
    rw [unlessHeld_free _ hr, takeUnknown, if_neg (by simp [hw]), unknownReason, hf]
    exact congrArg _ ended

/-- A right frame of no request code is refused with UNKNOWN, and ends AMEND. -/
theorem exec_unknown {code : Byte} {tail params : List Byte} (hp : PortFree s) (hf : frameParams tail = some params) :
    exec (.unknown code tail) s =
      .next (answered code (refusedFor .unknown) { s with sp := { s.sp with amend := false } }) := by
  obtain ⟨hr, hw⟩ := hp
  show Host.Outcome.next (unlessHeld (takeUnknown code tail) s) = _
  rw [unlessHeld_free _ hr, takeUnknown, if_neg (by simp [hw]), unknownReason, hf]
  refine congrArg _ ?_
  simp [answered, endAmend, occupySlot, onSp, postAnswer, send, refusedFor]

/-- Settles O6: the outer form at SP, the length at the owner. -/
theorem framesRefusedByForm : Obligations.FramesRefusedByForm :=
  ⟨⟨fun _ _ _ _ he hc hp hf => exec_malformed he hc hp hf, fun _ _ _ _ hp hf => exec_unknown hp hf⟩,
    fun _ _ _ _ _ he h0 hk hp hf hl hw => exec_lengthWrong he h0 hk hp hf hl hw⟩

end Sys2Proof.Machine
end

section
/-! The answer slot (R169 to R171), attention (R175 to R179) and the reports that reach SP. -/
namespace Sys2Proof.Machine

variable {s : State}

/-! ### FETCH and the answer (R169 to R171) -/

/-- FETCH outside reset clocks out the frame of the slot. -/
theorem exec_fetch (n : Nat) (h : s.resetHeld = false) :
    exec (.fetch n) s = .next { s with sp := { s.sp with
      dataOut := (answerFrame s.sp.slot ++ List.replicate n 0).take n } } :=
  congrArg _ (unlessHeld_free _ h)

/-- The answer on its way enters the slot. -/
theorem exec_answerToSlot {a : Answer} (h : s.resetHeld = false) (ha : s.sp.answer = some a) :
    exec (.answerToSlot none) s = .next { s with
      transit := s.transit.erase (.answerToSlot none)
      sp := { s.sp with
        slot := .ready { a with overrunMark := s.sp.overrun, reply := freshReply a.request s.sp a.reply }
        answer := none, overrun := false } } := by
  refine (onArrival_free _ _ h).trans ?_
  simp only [takeAnswerOf, takeAnswer, arrive_sp, ha]
  rfl

/-- With no answer on its way the message alone is gone. -/
theorem exec_answerToSlot_none (h : s.resetHeld = false) (ha : s.sp.answer = none) :
    exec (.answerToSlot none) s = .next { s with transit := s.transit.erase (.answerToSlot none) } := by
  refine (onArrival_free _ _ h).trans ?_
  simp only [takeAnswerOf, takeAnswer, arrive_sp, ha]
  rfl

/-- An answer that is no DONE to STATUS enters as it is. -/
theorem freshReply_other {request : Byte} {sp : Sp} {r : Reply} (h : request ≠ 0x01 ∨ r.code ≠ .done) :
    freshReply request sp r = r := if_neg fun ⟨h1, h2⟩ => h.elim (absurd h1) (absurd h2)

/-- A DONE to STATUS takes the attention bytes as they stand. -/
theorem freshReply_status {request : Byte} {sp : Sp} {r : Reply} (h1 : request = 0x01) (h2 : r.code = .done) :
    freshReply request sp r = { r with data := r.data.take 45 ++ attentionBytes sp ++ r.data.drop 51 } :=
  if_pos ⟨h1, h2⟩

/-- A discarded request sets the overrun flag and the PORT_OVERRUN latch, with the line evaluated. -/
theorem discardRequest_eq (s : State) : discardRequest s = { s with sp := { s.sp with
    overrun := true, latches := s.sp.latches ||| 0x0800
    attnLine := (s.sp.latches ||| 0x0800) &&& ~~~s.sp.masks != 0 } } := rfl

/-- Every request frame but FETCH is discarded while the slot is WORKING. -/
theorem exec_working {c : Instr} {code : Byte} {tail : List Byte} (he : encodeFrame c = some (code :: tail))
    (hc : code ≠ 0x00) (h : s.resetHeld = false) (hw : slotWorking s = true) : exec c s = .next (discardRequest s) := by
  rcases exec_of_frame he hc with ⟨k, take, hx⟩ | rfl
  · rw [hx, unlessHeld_free _ h, portFrame_working code k take tail hw]
  · show Host.Outcome.next (unlessHeld (takeUnknown code tail) s) = _
    rw [unlessHeld_free _ h, takeUnknown, if_pos hw]

/-- Settles O5: FETCH by the slot, the answer by its kind, and the discard. -/
theorem answerSlot : Obligations.AnswerSlot := by
  refine ⟨fun n s hs => ⟨fun h => ?empty, fun code h => ?working, fun a h => ?ready⟩,
    fun s a hs ha => ⟨fun h => ?other, fun h1 h2 => ?status⟩, fun s hs ha => exec_answerToSlot_none hs ha,
    fun c code tail s he hc hs hw => (exec_working he hc hs hw).trans (congrArg _ (discardRequest_eq s)), rfl, rfl⟩
  case empty => rw [exec_fetch n hs, h]; rfl
  case working => rw [exec_fetch n hs, h]; rfl
  case ready => rw [exec_fetch n hs, h]; rfl
  case other => rw [exec_answerToSlot hs ha, freshReply_other h]
  case status => rw [exec_answerToSlot hs ha, freshReply_status h1 h2]; rfl

/-! ### READ ATTENTION and SET ATTENTION (R178, R179) -/

/-- Settles O8: the latches released with the line, the masks replaced with the line evaluated. -/
theorem readAndSetAttention : Obligations.ReadAndSetAttention := by
  refine ⟨fun s hp => ?read, fun m0 m1 modes s hp => ⟨fun hm => ?replaced, fun hm => ?range⟩⟩
  case read =>
    refine hostRequest_answered hp rfl frameParams_none (t := { s with sp := { s.sp with latches := 0, attnLine := false } }) ?_
    simp [noParams, takeReadAttention, done, atOwner, onSp, clearLatches, evalLine, lineAsserted, doneWith]
  case replaced =>
    refine hostRequest_answered hp rfl (params := [m0, m1, modes]) (by simp [frameParams]) ?_
    rw [takeSetAttention, if_neg (Nat.not_le.2 hm), BitVec.ofNat_toNat]
    rfl
  case range =>
    refine hostRequest_answered hp rfl (params := [m0, m1, modes]) (by simp [frameParams]) ?_
    rw [takeSetAttention, if_pos hm]
    rfl

/-! ### Reports (R175, R176) -/

/-- An edge to the value held changes nothing. -/
theorem applyEdge_held {c : CondClass} {e : Edge} {sp : Sp} (h : sp.condValues.getLsbD (condIndex c) = (e == .entry)) :
    applyEdge c e sp = sp := if_pos h

/-- An entry edge sets the value and the latch. -/
theorem applyEdge_entry {c : CondClass} {sp : Sp} (h : sp.condValues.getLsbD (condIndex c) = false) :
    applyEdge c .entry sp =
      setLatch (12 + condIndex c) { sp with condValues := sp.condValues ||| ((1 : BitVec 4) <<< condIndex c) } := by
  refine (if_neg (by simp [h])).trans ?_
  rfl

/-- An exit edge clears the value, and sets the latch in mode BOTH. -/
theorem applyEdge_exit {c : CondClass} {sp : Sp} (h : sp.condValues.getLsbD (condIndex c) = true) :
    applyEdge c .exit sp =
      let left := { sp with condValues := sp.condValues &&& ~~~((1 : BitVec 4) <<< condIndex c) }
      if sp.edgeModes.getLsbD (condIndex c) then setLatch (12 + condIndex c) left else left := by
  refine (if_neg (by simp [h])).trans ?_
  rfl

/-- A link report that makes the lost-link set non-empty is an entry edge of LINK_LOST. -/
theorem applyLinkReport_entry {l : Link} {lost : Bool} {sp : Sp} (h0 : sp.lostLinks = 0)
    (h1 : putBit sp.lostLinks (linkIndex l) lost ≠ 0) :
    applyLinkReport l lost sp =
      applyEdge .linkLost .entry { sp with lostLinks := putBit sp.lostLinks (linkIndex l) lost } := if_pos ⟨h0, h1⟩

/-- One that makes it empty is an exit edge. -/
theorem applyLinkReport_exit {l : Link} {lost : Bool} {sp : Sp} (h0 : sp.lostLinks ≠ 0)
    (h1 : putBit sp.lostLinks (linkIndex l) lost = 0) :
    applyLinkReport l lost sp =
      applyEdge .linkLost .exit { sp with lostLinks := putBit sp.lostLinks (linkIndex l) lost } := by
  refine (if_neg fun h => h0 h.1).trans (if_pos ⟨h0, h1⟩)

/-- One that does neither is no edge. -/
theorem applyLinkReport_noEdge {l : Link} {lost : Bool} {sp : Sp}
    (h : sp.lostLinks = 0 ↔ putBit sp.lostLinks (linkIndex l) lost = 0) :
    applyLinkReport l lost sp = { sp with lostLinks := putBit sp.lostLinks (linkIndex l) lost } := by
  refine (if_neg fun hx => hx.2 (h.1 hx.1)).trans (if_neg fun hx => hx.1 (h.2 hx.2))

/-- A report reaches SP alone. -/
theorem exec_spReport {m : Instr} {f : Sp → Sp} (he : exec m s = onArrival m (onSp f) s) (h : s.resetHeld = false) :
    exec m s = .next { s with transit := s.transit.erase m, sp := f s.sp } := by
  rw [he, onArrival_free _ _ h]
  rfl

/-- Settles O9: an event's latch, an edge by the value held, a link report by the set before and after. -/
theorem reportsReachThePort : Obligations.ReportsReachThePort := by
  unfold Obligations.ReportsReachThePort
  intro latch enter leave
  refine ⟨fun c n s hs hc => ?event, fun c j s hs hc => ⟨fun e hv => ?held, fun hv => ?entry, fun hv => ?exit⟩,
    fun l lost s hs => ?link⟩
  case event =>
    have hn : eventIndex c = n := by
      simp only [List.mem_cons, List.not_mem_nil, or_false, Prod.mk.injEq] at hc
      rcases hc with h | h | h | h | h | h | h | h | h | h | h | h <;> rw [h.1, h.2] <;> rfl
    rw [exec_spReport rfl hs, hn]
    rfl
  case held =>
    have hj : condIndex c = j := by cases c <;> simp_all [condIndex]
    rw [exec_spReport rfl hs, applyEdge_held (by rw [hj]; exact hv)]
  case entry =>
    have hj : condIndex c = j := by cases c <;> simp_all [condIndex]
    rw [exec_spReport rfl hs, applyEdge_entry (by rw [hj]; exact hv), hj]
    rfl
  case exit =>
    have hj : condIndex c = j := by cases c <;> simp_all [condIndex]
    rw [exec_spReport rfl hs, applyEdge_exit (by rw [hj]; exact hv), hj]
    rfl
  case link =>
    intro n bit set t
    have hset : putBit s.sp.lostLinks (linkIndex l) lost = set := by cases l <;> rfl
    have reached := exec_spReport (m := .linkReport l lost) (f := applyLinkReport l lost) rfl hs
    refine ⟨fun h0 h1 => ?_, fun h0 h1 => ?_, fun h => ?_⟩
    · rw [reached, applyLinkReport_entry h0 (hset ▸ h1), hset]
      cases hv : s.sp.condValues.getLsbD 0 with
      | true => rw [if_pos rfl, applyEdge_held (c := .linkLost) (e := .entry) (sp := { s.sp with lostLinks := set }) hv]
      | false => rw [if_neg (by decide), applyEdge_entry (c := .linkLost) (sp := { s.sp with lostLinks := set }) hv]; rfl
    · rw [reached, applyLinkReport_exit h0 (hset.trans h1), hset]
      cases hv : s.sp.condValues.getLsbD 0 with
      | true => rw [if_pos rfl, applyEdge_exit (c := .linkLost) (sp := { s.sp with lostLinks := set }) hv]; rfl
      | false => rw [if_neg (by decide), applyEdge_held (c := .linkLost) (e := .exit) (sp := { s.sp with lostLinks := set }) hv]
    · rw [reached, applyLinkReport_noEdge (by rw [hset]; exact h), hset]

end Sys2Proof.Machine
end

section
/-! STATUS (R173, R174): each owner's groups and the reports before them, and the layout of the answer. -/
namespace Sys2Proof.Machine

variable {s : State}

/-! ### The reports of a block (R175, R176, log 31) -/

/-- A block's event reports are those of the classes it raises. -/
theorem isReportOf_event {b : Block} {c : EventClass} : isReportOf b (.attentionEventReport c) = true ↔
    (c, b) ∈ [(EventClass.seqState, Block.lsq), (.passDone, .lsq), (.intervalClosed, .lsq), (.bankEvent, .lsq),
      (.opDone, .zdu), (.opDone, .gsc), (.zoneDerate, .zdu), (.actFault, .ach), (.loopBroken, .cwu), (.crackOpened, .cwu),
      (.crackState, .cwu), (.crackTableFull, .cwu)] := by
  cases c <;> simp [isReportOf, eventRaisers]

/-- A block's condition reports are those of the classes it evaluates. -/
theorem isReportOf_condition {b : Block} {c : CondClass} {e : Edge} :
    isReportOf b (.conditionEdgeReport c e) = true ↔
      (c, b) ∈ [(CondClass.anyOver, Block.zdu), (.anyFault, .zdu), (.anyAlert, .gsc)] := by
  cases c <;> simp [isReportOf, condRaisers]

/-- ACH reports the drive links. -/
theorem isReportOf_drive {b : Block} {a : Fin Config.actuators} {lost : Bool} :
    isReportOf b (.linkReport (.drive a) lost) = true ↔ b = .ach := beq_iff_eq.trans eq_comm

/-- GSC reports the scanner links. -/
theorem isReportOf_scanner {b : Block} {k : Fin Config.scanners} {lost : Bool} :
    isReportOf b (.linkReport (.scanner k) lost) = true ↔ b = .gsc := beq_iff_eq.trans eq_comm

/-- A report's own command has SP take it. -/
theorem exec_report_eq {b : Block} {m : Instr} (hm : isReportOf b m = true) (h : s.resetHeld = false) :
    exec m s = .next (takeSpReport m (arrive m s)) := by
  cases m
  case attentionEventReport c => exact onArrival_free _ _ h
  case conditionEdgeReport c e => exact onArrival_free _ _ h
  case linkReport l lost => exact onArrival_free _ _ h
  all_goals cases hm

/-! ### The groups (11.3) -/

/-- The sequencer's groups: offsets 0 to 19, and 51. -/
theorem lsqStatus_eq (q : Lsq) : lsqStatus q =
    ([byteOf q.seq.code, optByte q.seq.subPhase, optByte q.seq.heldOrigin, byteOf q.haltCause.code, byteOf q.position] ++
        le32 q.passCount ++ [byteOf q.scale, byteOf q.direction.code, if q.intervalAuto then 0 else 1] ++
        le16 q.intervalNumber.toNat ++ le16 q.intervalPasses ++
        [byteOf q.active.code, byteOf q.bankA.state.code, byteOf q.bankB.state.code, if q.swapPending then 1 else 0]) ++
      [optByte q.seq.stepPhase] := by
  simp [lsqStatus, flagByte]

/-- A two-byte field. -/
@[simp] theorem length_le16 (n : Nat) : (le16 n).length = 2 := rfl

/-- A four-byte field. -/
@[simp] theorem length_le32 (n : Nat) : (le32 n).length = 4 := rfl

/-- A group between two others, found by its place and length. -/
theorem take_drop_mid {α : Type} {p x q : List α} {n m : Nat} (hp : p.length = n) (hx : x.length = m) :
    ((p ++ x ++ q).drop n).take m = x := by
  rw [List.append_assoc, List.drop_left' hp, List.take_left' hx]

/-- Seven groups of the lengths of 11.3, the first and the third each carried with one that stands apart: where each lies
in the answer. -/
theorem statusData_layout {a b c d e f g : List Byte} (ha : a.length = 20) (hb : b.length = 8) (hc : c.length = 5)
    (hd : d.length = 8) (he : e.length = 4) (hf : f.length = 6) (hg : g.length = 1) :
    let data := statusData { lsq := a ++ g, zdu := b, ach := d, gsc := c ++ e } f
    data.length = 52 ∧ data.take 20 = a ∧ (data.drop 20).take 8 = b ∧ (data.drop 28).take 5 = c ∧
      (data.drop 33).take 8 = d ∧ (data.drop 41).take 4 = e ∧ (data.drop 45).take 6 = f ∧ data.drop 51 = g := by
  intro data
  have hdata : data = a ++ b ++ c ++ d ++ e ++ f ++ g := by
    simp [data, statusData, List.take_left' ha, List.drop_left' ha, List.take_left' hc, List.drop_left' hc]
  have mid : ∀ {p x q : List Byte} {n m : Nat}, p ++ x ++ q = data → p.length = n → x.length = m →
      (data.drop n).take m = x := fun h hp hx => h ▸ take_drop_mid hp hx
  refine ⟨by simp [*], ?_, mid (p := a) (q := c ++ d ++ e ++ f ++ g) ?_ ha hb,
    mid (p := a ++ b) (q := d ++ e ++ f ++ g) ?_ ?_ hc, mid (p := a ++ b ++ c) (q := e ++ f ++ g) ?_ ?_ hd,
    mid (p := a ++ b ++ c ++ d) (q := f ++ g) ?_ ?_ he, mid (p := a ++ b ++ c ++ d ++ e) (q := g) ?_ ?_ hf, ?_⟩
  case refine_1 => simp [hdata, List.take_left' ha]
  case refine_11 => rw [hdata]; exact List.drop_left' (by simp [*])
  all_goals simp [*]

/-! ### The owners' events -/

/-- An owner that is asked takes its own reports to SP, then answers. -/
theorem exec_answerToSlot_owner {b : Block} {g : Gather} (h : s.resetHeld = false) (hg : s.sp.gather = some g)
    (hb : b ∈ g.waiting) :
    exec (.answerToSlot (some b)) s =
      let x := ownerEvent b g.op (arrive (.answerToSlot (some b)) s)
      .next (gathered { g with op := x.2, waiting := g.waiting.erase b }
        (Gather.data { g with op := x.2, waiting := g.waiting.erase b } x.1.sp) x.1) :=
  (onArrival_free _ _ h).trans (congrArg _ (takeOwnerAnswer_asked (s := arrive (.answerToSlot (some b)) s) hg hb))

/-- An owner that is not asked has nothing to answer. -/
theorem exec_answerToSlot_unasked {b : Block} (h : s.resetHeld = false)
    (hb : ∀ g, s.sp.gather = some g → b ∉ g.waiting) :
    exec (.answerToSlot (some b)) s = .next { s with transit := s.transit.erase (.answerToSlot (some b)) } :=
  (onArrival_free _ _ h).trans (congrArg _ (takeOwnerAnswer_unasked (s := arrive (.answerToSlot (some b)) s) hb))

/-- Settles O7: the claim's reports and groups are put in the model's words; each clause is then one event. -/
theorem statusAnswersTheState : Obligations.StatusAnswersTheState := by
  unfold Obligations.StatusAnswersTheState
  intro lsq stepPhase zdu gauges drives scanners attention read formed report
  have hreport : ∀ b m, isReportOf b m = true ↔ report b m := by
    intro b m
    cases m
    case attentionEventReport c => exact isReportOf_event
    case conditionEdgeReport c e => exact isReportOf_condition
    case linkReport l lost =>
      cases l with
      | drive a => exact isReportOf_drive
      | scanner k => exact isReportOf_scanner
    all_goals exact ⟨fun h => absurd h Bool.false_ne_true, False.elim⟩
  have hread : ∀ b s g, answerStatus b s g = read b s g := by
    intro b s g
    cases b
    case lsq => exact congrArg (fun x => { g with lsq := x }) (lsqStatus_eq s.lsq)
    all_goals rfl
  have hnot : ∀ {b m}, ¬ report b m → isReportOf b m = false := fun h => Bool.eq_false_iff.2 (mt (hreport _ _).1 h)
  refine ⟨fun b s h => takeSent_none fun m hm => hnot (h m hm), fun b s pre m post hs ht hp hm => ?oldest,
    fun s hp => request_none takeStatus hp rfl, fun b g place waiting s hs hg hb => ?answer,
    fun b s hs h => exec_answerToSlot_unasked hs h, fun s1 s2 s3 s4 s => ?layout, rfl, rfl⟩
  case oldest =>
    have hm := (hreport b m).2 hm
    exact ⟨_, exec_report_eq hm hs, takeReportsOf_first ht (fun x hx => hnot (hp x hx)) hm⟩
  case answer =>
    refine ⟨takeReportsOf_event b _, ?_⟩
    rw [exec_answerToSlot_owner hs hg hb, ← hread b s g]
    rfl
  case layout =>
    refine statusData_layout (a := lsq s1) (b := zdu s2) (c := gauges s4) (d := drives s3) (e := scanners s4)
      (f := attention s) (g := stepPhase s1) rfl rfl rfl ?_ ?_ rfl rfl
    · exact (List.length_map _).trans s3.ach.acts.size
    · exact (List.length_map _).trans s4.gsc.links.size

end Sys2Proof.Machine
end

section
/-! RESTART (R180): SP's part, each block's part, and the count of the parts done. -/
namespace Sys2Proof.Machine

variable {s : State}

/-! ### SP's part -/

/-- RESTART with the sequencer IDLE and no REZONE open. -/
theorem takeRestart_taken (hq : s.lsq.seq = .idle) (hz : s.zdu.rezone = none) :
    takeRestart s = (beginRestart s, none) := if_pos ⟨hq, by simp [rezoneIsOpen, hz]⟩

/-- RESTART refused. -/
theorem takeRestart_state (h : s.lsq.seq ≠ .idle ∨ s.zdu.rezone.isSome = true) : takeRestart s = refuse s .state := by
  refine if_neg fun ⟨hq, hz⟩ => ?_
  rcases h with h | h
  · exact h hq
  · simp [rezoneIsOpen, h] at hz

/-- A block not yet counted is added at the end. -/
theorem addOnce_new {α : Type} [DecidableEq α] {x : α} {xs : List α} (h : x ∉ xs) : addOnce x xs = xs ++ [x] := by
  simp [addOnce, h]

/-- Up to the fourth part done SP counts. -/
theorem takePartDone_counts {b : Block} {bs : List Block} (h : s.sp.restartDone = some bs) (hb : b ∉ bs)
    (hn : bs.length < 4) :
    takePartDone b s = { s with sp := { s.sp with restartDone := some (bs ++ [b]) } } := by
  simp only [takePartDone, h, addOnce_new hb]
  exact if_neg (by simp; omega)

/-- The fifth brings the answer. -/
theorem takePartDone_last {b : Block} {bs : List Block} (h : s.sp.restartDone = some bs) (hb : b ∉ bs)
    (hn : 4 ≤ bs.length) :
    takePartDone b s = postAnswer 0x04 (doneWith []) { s with sp := { s.sp with restartDone := none } } := by
  simp only [takePartDone, h, addOnce_new hb]
  exact if_pos (by simp; omega)

/-! ### CWU's part (R144) and GSC's (R105) -/

/-- A loop's part: an OPENING loop is judged by its line. -/
theorem Loop.restarted_eq (r : Loop) : r.restarted =
    if r.state = .opening then
      if r.closed = true then { r with state := .intact, timer := none } else { r with timer := some r.confirmTime }
    else r := by
  cases hs : r.state <;> cases hc : r.closed <;> simp [Loop.restarted, hs, hc]

/-- A record's part, judged and FAULT(LINK) written out. -/
theorem restartGauge_eq (g : Gauge) : restartGauge g =
    if g.state = .vacant then g
    else { g with
      state := if g.state ∈ [.waiting, .quiet, .alert, .over, .fault .link] then .waiting else g.state
      overRun := 0, clearRun := 0, overHeld := false, zeroPending := false, shuntPending := false } := by
  have h : (g.state.judged = true ∨ g.state = .fault .link) ↔
      g.state ∈ [.waiting, .quiet, .alert, .over, .fault .link] := by simp [judged_iff, or_assoc]
  simp only [restartGauge, h]

/-- No record is in ALERT after its part. -/
theorem restartGauge_state_ne_alert (g : Gauge) : (restartGauge g).state ≠ .alert := by
  unfold restartGauge
  by_cases hv : g.state = .vacant
  · simp [hv]
  · by_cases hj : g.state.judged = true ∨ g.state = .fault .link
    · simp [hv, hj]
    · have ha : g.state ≠ .alert := fun h => hj (.inl (by simp [h, GaugeState.judged]))
      simp [hv, hj, ha]

/-- ANY_ALERT, record by record. -/
theorem anyAlert_eq_false_iff : anyAlert s = false ↔ ∀ g ∈ s.gsc.gauges.rows, g.state ≠ .alert := by
  simp [anyAlert]

/-- GSC before its alert edge. -/
def gscRestarted (s : State) : State :=
  { s with
    gsc := { s.gsc with
      gauges := s.gsc.gauges.map restartGauge, links := Table.fill _ {}, zeroOp := none, shuntOp := none }
    transit := s.transit ++ (lostScanners s).map (fun k => .linkReport (.scanner k) false) ++
      s.gsc.gauges.rows.zipIdx.flatMap fun x =>
        if s.gsc.sweep.passed x.2 then claimsOf x.1 (restartGauge x.1) else [] }

/-- Everything GSC's part does: an edge of ANY_ALERT follows where some record was in ALERT. -/
theorem restartGsc_eq (s : State) : restartGsc s = { gscRestarted s with
    transit := (gscRestarted s).transit ++ if anyAlert s then [.conditionEdgeReport .anyAlert .exit] else [] } := by
  have hf : anyAlert (gscRestarted s) = false := anyAlert_eq_false_iff.2 fun g hg => by
    obtain ⟨g, -, rfl⟩ := List.mem_map.1 hg
    exact restartGauge_state_ne_alert g
  have h : restartGsc s = withAlertEdge s (gscRestarted s) := by
    rw [restartGsc, alertEvent_eq, moveGauges_eq]
    rfl
  rw [h, withAlertEdge, hf]
  cases anyAlert s <;> rfl

/-- Settles O10: SP's part, the count of the parts done, and the part of each block. -/
theorem restartOfThePart : Obligations.RestartOfThePart := by
  refine ⟨⟨fun s hp => ⟨fun hq hz => ?taken, fun h => ?refused⟩,
    fun b bs s hs hd hb => ⟨fun hn => ?counts, fun hn => ?last⟩⟩, fun s hs => ⟨fun b hb => ?keep, ?cwu, ?gsc⟩⟩
  case taken =>
    refine (request_none takeRestart hp rfl).trans ?_
    rw [takeRestart_taken (s := atOwner 0x04 s) hq hz]
    simp [beginRestart, onSp, Sp.restarted, clearLatches, evalLine, lineAsserted, atOwner, sendAll]
  case refused => exact plainRequest_refused hp rfl (takeRestart_state h)
  case counts =>
    exact (onArrival_free _ _ hs).trans (congrArg _ (takePartDone_counts (s := arrive (.restartPartDone b) s) hd hb hn))
  case last =>
    exact (onArrival_free _ _ hs).trans (congrArg _ (takePartDone_last (s := arrive (.restartPartDone b) s) hd hb hn))
  case keep =>
    refine (onArrival_free _ _ hs).trans ?_
    rcases hb with rfl | rfl | rfl <;> rfl
  case cwu =>
    refine (onArrival_free _ _ hs).trans ?_
    simp only [takeRestartNotice, restartPart, restartCwu, funext Loop.restarted_eq]
    rfl
  case gsc =>
    refine ⟨_, onArrival_free _ _ hs, ?_⟩
    simp only [takeRestartNotice, restartPart, restartGsc_eq]
    refine ⟨rfl, rfl, fun i => ?_, rfl⟩
    exact (Table.get_map restartGauge s.gsc.gauges i).trans (restartGauge_eq (gauge i s))

end Sys2Proof.Machine
end

section
/-! The values after device reset (R18, R39, R55, R82, R104, R123, R143, R166, R181), and the invariants there. -/
namespace Sys2Proof.Machine

/-- A filled table reads its value at every number, past its end too where the default is that value. -/
theorem getD_fill {α : Type} (n : Nat) (x : α) (i : Nat) : (Table.fill n x).getD i x = x := by
  unfold Table.getD
  split <;> simp

/-- Every zone entry is at its defaults. -/
theorem reset_zoneEntry (z : Nat) : zoneEntry z State.reset = {} :=
  getD_fill Config.zones ({} : ZoneEntry) z

/-- Every gauge record is at its defaults. -/
theorem reset_gauge (i : Fin Config.gauges) : gauge i State.reset = {} := Table.get_fill _ i

/-- Every crack record is at its defaults. -/
theorem reset_crack (i : Fin Config.cracks) : crack i State.reset = {} := Table.get_fill _ i

/-- Every loop record is at its defaults, its line open. -/
theorem reset_loop (l : Fin Config.loops) : loop l State.reset = {} := by
  simp [loop, State.reset, Cwu.reset, Table.get, Table.fill]

/-- No key names a record. -/
theorem reset_gaugeAt (k : Fin Config.scanners) (ch : Nat) : gaugeAt k ch State.reset = none := by
  unfold gaugeAt
  split
  · exact getD_fill _ none _
  · rfl

theorem reset_deratesTrue : DeratesTrue State.reset := fun _ z _ => by rw [reset_zoneEntry]; rfl

theorem reset_keysTrue : KeysTrue State.reset := by
  refine ⟨fun i h => absurd ?_ h, fun k ch i h => ?_⟩
  · rw [reset_gauge]
  · rw [reset_gaugeAt] at h; cases h

theorem reset_bindingsTrue : BindingsTrue State.reset := by
  refine ⟨fun l i => ?_, fun l i h => ?_, fun i => ?_, fun l h => ?_⟩
  · simp [reset_crack, reset_loop]
  · simp [reset_loop] at h
  · simp [reset_crack]
  · simp [reset_loop] at h

/-- Settles O4: the records of the tables by what a filled table reads, everything else as it stands. -/
theorem resetValues : Obligations.ResetValues := by
  refine ⟨⟨rfl, rfl, rfl, rfl, rfl, rfl, rfl, rfl, rfl, rfl, rfl, rfl, rfl⟩,
    ⟨rfl, rfl, rfl, rfl, rfl, rfl, rfl, reset_zoneEntry⟩, ⟨rfl, rfl, rfl, fun a => Table.get_fill _ a⟩,
    ⟨rfl, rfl, rfl, rfl, rfl, rfl, rfl, rfl, fun a => Table.get_fill _ a, fun a => Table.get_fill _ a, rfl, rfl, rfl, rfl,
      rfl, rfl, rfl, rfl, rfl, rfl, rfl, rfl, rfl, rfl⟩,
    ⟨rfl, rfl, rfl, rfl, rfl, rfl, rfl, rfl, rfl, fun k => Table.get_fill _ k, fun n => getD_fill _ none n, reset_gauge⟩,
    ⟨rfl, rfl, rfl, rfl, rfl, rfl, rfl, rfl, rfl, rfl, rfl, rfl, fun z => Table.get_fill _ z, reset_crack,
      fun c => Table.get_fill _ c, fun l => ?_⟩,
    fun l => Table.get_fill _ l, ⟨rfl, fun h => absurd h Bool.false_ne_true⟩, reset_deratesTrue,
    ⟨by decide, by simp [State.reset, Zdu.reset], .nil⟩, ⟨by decide, .nil⟩, reset_keysTrue, ⟨by decide, by decide⟩,
    reset_bindingsTrue⟩
  rw [reset_loop]
  simp [State.reset]

end Sys2Proof.Machine
end

section
/-! Zone entries (R3, R8): what a write to one, or to each of a list, leaves; and the derates updated together (R9). -/
namespace Sys2Proof.Machine

variable {s : State} {z y : Nat} {e : ZoneEntry}

/-! ### One entry -/

/-- An index past the table reads as the defaults. -/
theorem zoneEntry_ge (h : 32 ≤ z) : zoneEntry z s = {} := by
  simp [zoneEntry, Table.getD, Table.index?_ge h]

/-- The entry written, and every other. -/
theorem zoneEntry_setZone : zoneEntry z (setZone y e s) = if z = y ∧ y < 32 then e else zoneEntry z s :=
  Table.getD_setD _ _ _ _ _

/-- The entry written. -/
theorem zoneEntry_setZone_self (h : z < 32) : zoneEntry z (setZone z e s) = e := by
  simp [zoneEntry_setZone, h]

/-- Of two writes to one entry the second stands. -/
theorem setZone_setZone (e' : ZoneEntry) : setZone z e' (setZone z e s) = setZone z e' s := by
  unfold setZone onZdu Table.setD
  cases Table.index? Config.zones z <;> simp

/-- The entry with its effective derate made the least of its three. -/
def ZoneEntry.updated (e : ZoneEntry) : ZoneEntry := { e with effective := e.leastDerate }

/-- The effective derate stored, entry by entry; past the table the defaults stand. -/
theorem zoneEntry_storeEffective :
    zoneEntry z (storeEffective y s) = if z = y then (zoneEntry z s).updated else zoneEntry z s := by
  rw [storeEffective, zoneEntry_setZone]
  by_cases h : z = y
  · subst h
    by_cases hz : z < 32
    · simp [hz, ZoneEntry.updated]
    · rw [if_neg (fun h => hz h.2), if_pos rfl, zoneEntry_ge (Nat.not_lt.1 hz)]
      rfl
  · simp [h]

/-! ### A list of entries -/

/-- A pass over a list of entries changes the zone table alone. -/
theorem foldl_setZone_eq (g : Nat → ZoneEntry → ZoneEntry) (zs : List Nat) (s : State) :
    zs.foldl (fun t z => setZone z (g z (zoneEntry z t)) t) s = { s with zdu := { s.zdu with
      zones := (zs.foldl (fun t z => setZone z (g z (zoneEntry z t)) t) s).zdu.zones } } := by
  induction zs generalizing s with
  | nil => rfl
  | cons z zs ih => rw [List.foldl_cons, ih]; rfl

/-- Each entry of the list is changed, every other as it was, where a second change makes no difference. -/
theorem zoneEntry_foldl_setZone (g : Nat → ZoneEntry → ZoneEntry) (hg : ∀ z e, g z (g z e) = g z e) (zs : List Nat)
    (s : State) (hz : z < 32) :
    zoneEntry z (zs.foldl (fun t z => setZone z (g z (zoneEntry z t)) t) s) =
      if z ∈ zs then g z (zoneEntry z s) else zoneEntry z s := by
  induction zs generalizing s with
  | nil => rfl
  | cons y ys ih =>
    rw [List.foldl_cons, ih, zoneEntry_setZone]
    by_cases h : z = y
    · subst h
      simp [hz, hg]
    · simp [h]

/-- The effective derates of a list stored, the zone table alone changed. -/
theorem foldl_storeEffective_eq (zs : List Nat) (s : State) :
    zs.foldl (fun t z => storeEffective z t) s =
      { s with zdu := { s.zdu with zones := (zs.foldl (fun t z => storeEffective z t) s).zdu.zones } } :=
  foldl_setZone_eq (fun _ e => e.updated) zs s

/-- The effective derates of a list stored, entry by entry. -/
theorem zoneEntry_foldl_storeEffective (zs : List Nat) (s : State) :
    zoneEntry z (zs.foldl (fun t z => storeEffective z t) s) =
      if z ∈ zs then (zoneEntry z s).updated else zoneEntry z s := by
  by_cases hz : z < 32
  · exact zoneEntry_foldl_setZone (fun _ e => e.updated) (fun _ _ => rfl) zs s hz
  · rw [zoneEntry_ge (Nat.not_lt.1 hz), zoneEntry_ge (Nat.not_lt.1 hz)]
    split <;> rfl

/-! ### Derates updated together (R9) -/

/-- A REZONE is open at the ZDU exactly where it holds one. -/
theorem rezoneIsOpen_false (h : s.zdu.rezone = none) : rezoneIsOpen s = false := by simp [rezoneIsOpen, h]

/-- While a REZONE is open nothing is updated. -/
theorem updateEffective_open (zs : List Nat) (h : s.zdu.rezone.isSome = true) : updateEffective zs s = s := if_pos h

/-- Everything an update does outside a REZONE. -/
theorem updateEffective_eq (zs : List Nat) (h : s.zdu.rezone = none) :
    updateEffective zs s = { s with
      zdu := { s.zdu with zones := (zs.foldl (fun t z => storeEffective z t) s).zdu.zones }
      transit := s.transit ++ (if zs.any (derateChanged s) then [.attentionEventReport .zoneDerate] else []) ++
        (zs.filter (derateFell s)).map .derateFall } := by
  unfold updateEffective
  rw [if_neg (by simp [rezoneIsOpen, h]), foldl_storeEffective_eq]
  by_cases hc : zs.any (derateChanged s) = true <;> simp [hc, raise, send, sendAll]

/-- The entries an update leaves. -/
theorem zoneEntry_updateEffective (zs : List Nat) (h : s.zdu.rezone = none) :
    zoneEntry z (updateEffective zs s) = if z ∈ zs then (zoneEntry z s).updated else zoneEntry z s := by
  rw [updateEffective_eq zs h]
  exact zoneEntry_foldl_storeEffective zs s

/-- Settles O19: what an update does outside a REZONE, and that it does nothing inside one. -/
theorem updatedDeratesAreTheLeastOfThree : Obligations.UpdatedDeratesAreTheLeastOfThree := by
  intro zs s _ _ t least
  refine ⟨updateEffective_open zs, fun h => ?_⟩
  have ht : t = _ := updateEffective_eq zs h
  refine ⟨?_, fun z => zoneEntry_updateEffective zs h, ?_⟩
  · rw [ht]
  · rw [ht]
    rfl

/-- One entry updated outside a REZONE: stored, with ZONE_DERATE where it changed and DERATE_FALL where it fell. -/
theorem updateEffective_setZone (hz : z < 32) (h : s.zdu.rezone = none) :
    updateEffective [z] (setZone z e s) = { setZone z e.updated s with
      transit := s.transit ++ (if e.leastDerate = e.effective then [] else [.attentionEventReport .zoneDerate]) ++
        if e.leastDerate < e.effective then [.derateFall z] else [] } := by
  rw [updateEffective_eq [z] (s := setZone z e s) h]
  have hstored : storeEffective z (setZone z e s) = setZone z e.updated s := by
    rw [storeEffective, zoneEntry_setZone_self hz, setZone_setZone, ZoneEntry.updated]
  have hc : derateChanged (setZone z e s) z = decide (e.leastDerate ≠ e.effective) := by
    simp [derateChanged, zoneEntry_setZone_self hz, bne, BEq.beq]
  have hf : derateFell (setZone z e s) z = decide (e.leastDerate < e.effective) := by
    simp only [derateFell, zoneEntry_setZone_self hz]
  simp only [List.foldl_cons, List.foldl_nil, hstored, List.any_cons, List.any_nil, hc, List.filter_cons, List.filter_nil, hf]
  by_cases h1 : e.leastDerate = e.effective <;> by_cases h2 : e.leastDerate < e.effective <;>
    simp [h1, h2, setZone, onZdu]

end Sys2Proof.Machine
end

section
/-! Claims, load masks, the strain trip and the conditions, and the host's derates (R4 to R7, R10 to R12). -/
namespace Sys2Proof.Machine

variable {s : State} {z : Nat}

/-! ### Claims (R6) -/

/-- A claim for a zone in use. -/
theorem zoneClaim_inUse {f : State → State} (h : z < zoneCount s) : zoneClaim z f s = f s := if_pos h

/-- A claim for a zone not in use. -/
theorem zoneClaim_dropped {f : State → State} (h : zoneCount s ≤ z) : zoneClaim z f s = s := if_neg (Nat.not_lt.2 h)

/-- An over claim counted. -/
theorem takeOverEnter_counted (h : z < zoneCount s) (hc : (zoneEntry z s).overCount < 512) :
    takeOverEnter z s =
      afterOverClaim z (setZone z { zoneEntry z s with overCount := (zoneEntry z s).overCount + 1 } s) :=
  (zoneClaim_inUse h).trans (if_pos hc)

/-- An over claim dropped. -/
theorem takeOverEnter_dropped (h : zoneCount s ≤ z ∨ 512 ≤ (zoneEntry z s).overCount) : takeOverEnter z s = s := by
  by_cases hz : z < zoneCount s
  · exact (zoneClaim_inUse hz).trans (if_neg (by omega))
  · exact zoneClaim_dropped (Nat.not_lt.1 hz)

/-- An over claim taken back. -/
theorem takeOverLeave_counted (h : z < zoneCount s) (hc : 0 < (zoneEntry z s).overCount) :
    takeOverLeave z s =
      afterOverClaim z (setZone z { zoneEntry z s with overCount := (zoneEntry z s).overCount - 1 } s) :=
  (zoneClaim_inUse h).trans (if_pos hc)

/-- One that is not there. -/
theorem takeOverLeave_dropped (h : zoneCount s ≤ z ∨ (zoneEntry z s).overCount = 0) : takeOverLeave z s = s := by
  by_cases hz : z < zoneCount s
  · exact (zoneClaim_inUse hz).trans (if_neg (by omega))
  · exact zoneClaim_dropped (Nat.not_lt.1 hz)

/-- A fault claim counted. -/
theorem takeFaultEnter_counted (h : z < zoneCount s) (hc : (zoneEntry z s).faultCount < 512) :
    takeFaultEnter z s =
      evalConditions (setZone z { zoneEntry z s with faultCount := (zoneEntry z s).faultCount + 1 } s) :=
  (zoneClaim_inUse h).trans (if_pos hc)

/-- A fault claim dropped. -/
theorem takeFaultEnter_dropped (h : zoneCount s ≤ z ∨ 512 ≤ (zoneEntry z s).faultCount) : takeFaultEnter z s = s := by
  by_cases hz : z < zoneCount s
  · exact (zoneClaim_inUse hz).trans (if_neg (by omega))
  · exact zoneClaim_dropped (Nat.not_lt.1 hz)

/-- A fault claim taken back. -/
theorem takeFaultLeave_counted (h : z < zoneCount s) (hc : 0 < (zoneEntry z s).faultCount) :
    takeFaultLeave z s =
      evalConditions (setZone z { zoneEntry z s with faultCount := (zoneEntry z s).faultCount - 1 } s) :=
  (zoneClaim_inUse h).trans (if_pos hc)

/-- One that is not there. -/
theorem takeFaultLeave_dropped (h : zoneCount s ≤ z ∨ (zoneEntry z s).faultCount = 0) : takeFaultLeave z s = s := by
  by_cases hz : z < zoneCount s
  · exact (zoneClaim_inUse hz).trans (if_neg (by omega))
  · exact zoneClaim_dropped (Nat.not_lt.1 hz)

/-- Settles O20: each clause is one outcome of a claim once its message has arrived. -/
theorem zoneClaims : Obligations.ZoneClaims := by
  refine ⟨fun z s hs => ?overClaims, fun z s hs => ?faultClaims⟩
  case overClaims =>
    intro e after s1 s2
    have enter : exec (.overEnter z) s = .next (takeOverEnter z s1) := onArrival_free _ _ hs
    have leave : exec (.overLeave z) s = .next (takeOverLeave z s2) := onArrival_free _ _ hs
    rw [enter, leave]
    exact ⟨fun h hc => congrArg _ (takeOverEnter_counted h hc), fun h => congrArg _ (takeOverEnter_dropped h),
      fun h hc => congrArg _ (takeOverLeave_counted h hc), fun h => congrArg _ (takeOverLeave_dropped h)⟩
  case faultClaims =>
    intro e s1 s2
    have enter : exec (.faultEnter z) s = .next (takeFaultEnter z s1) := onArrival_free _ _ hs
    have leave : exec (.faultLeave z) s = .next (takeFaultLeave z s2) := onArrival_free _ _ hs
    rw [enter, leave]
    exact ⟨fun h hc => congrArg _ (takeFaultEnter_counted h hc), fun h => congrArg _ (takeFaultEnter_dropped h),
      fun h hc => congrArg _ (takeFaultLeave_counted h hc), fun h => congrArg _ (takeFaultLeave_dropped h)⟩

/-! ### CRACK_DERATE and LOAD_MASK (R7, R10) -/

/-- A crack derate for a zone in use. -/
theorem takeCrackDerate_inUse {v n : Nat} (h : z < zoneCount s) :
    takeCrackDerate z v n s =
      updateEffective [z] (setZone z { zoneEntry z s with crackDerate := v, crackCount := n } s) := zoneClaim_inUse h

/-- Everything a load mask does. -/
theorem takeLoadMask_eq (set : BitVec 32) (s : State) :
    takeLoadMask set s = { s with zdu := { s.zdu with zones := (takeLoadMask set s).zdu.zones } } := by
  have h := foldl_setZone_eq (fun z e => { e with loadFlag := decide (z < zoneCount s) && set.getLsbD z })
    ((indices Config.zones).map Fin.val) s
  rw [List.foldl_map] at h
  exact h

/-- The load flags a load mask leaves. -/
theorem zoneEntry_takeLoadMask (set : BitVec 32) (s : State) (hz : z < 32) :
    zoneEntry z (takeLoadMask set s) =
      { zoneEntry z s with loadFlag := decide (z < zoneCount s) && set.getLsbD z } := by
  have h := zoneEntry_foldl_setZone (fun z e => { e with loadFlag := decide (z < zoneCount s) && set.getLsbD z })
    (fun _ _ => rfl) ((indices Config.zones).map Fin.val) s hz
  rw [List.foldl_map, if_pos (List.mem_map.2 ⟨⟨z, hz⟩, mem_indices _, rfl⟩)] at h
  exact h

/-- Settles O21: the one entry a crack derate updates, by its least derate before and after; the flags of a mask. -/
theorem crackDerateAndLoadMask : Obligations.CrackDerateAndLoadMask := by
  refine ⟨fun z v n s hs hz => ?derate, fun set s hs => ?mask⟩
  case derate =>
    intro e least rest
    have taken : exec (.crackDerate z v n) s = .next (takeCrackDerate z v n (arrive (.crackDerate z v n) s)) :=
      onArrival_free _ _ hs
    have updated := fun h : s.zdu.rezone = none =>
      updateEffective_setZone (s := arrive (.crackDerate z v n) s) (e := e) hz h
    have hleast : e.leastDerate = least := rfl
    rw [hleast] at updated
    rw [taken]
    refine ⟨fun h => ?unused, fun h hl => ?same, fun h hr hl => ?rise, fun h hr hl => ?fall⟩
    case unused => exact congrArg _ (zoneClaim_dropped (s := arrive _ s) h)
    all_goals rw [takeCrackDerate_inUse (s := arrive _ s) h]
    case same =>
      by_cases hr : s.zdu.rezone.isSome = true
      · rw [updateEffective_open _ (by exact hr)]
        rfl
      · have heq : least = e.effective := hl.resolve_left hr
        have hu : e.updated = e := by
          show { e with effective := least } = e
          rw [heq]
        refine congrArg _ ((updated (by simpa using hr)).trans ?_)
        rw [hu, if_pos heq, if_neg (heq ▸ lt_irrefl _)]
        simp [arrive, setZone, onZdu, rest]
    case rise =>
      refine congrArg _ ((updated hr).trans ?_)
      rw [if_neg (by omega), if_neg (by omega), List.append_nil]
      rfl
    case fall =>
      refine congrArg _ ((updated hr).trans ?_)
      rw [if_neg (by omega), if_pos hl, List.append_assoc]
      rfl
  case mask =>
    refine ⟨_, onArrival_free _ _ hs, ?_, fun z hz => zoneEntry_takeLoadMask set (arrive (.loadMask set) s) hz⟩
    rw [takeLoadMask_eq]
    rfl

/-! ### The strain trip and the conditions (R11, R12) -/

/-- No comparison while a REZONE is open or with a trip count of 0. -/
theorem compareTrip_off (h : s.zdu.rezone.isSome = true ∨ s.zdu.tripCount = 0) : compareTrip s = s :=
  if_pos (by simpa [rezoneIsOpen] using h)

/-- The comparison outside a REZONE with a trip count of 1 or more. -/
theorem compareTrip_on (hr : s.zdu.rezone = none) (h0 : s.zdu.tripCount ≠ 0) :
    compareTrip s =
      if s.zdu.tripCount ≤ totalOver s then
        if s.zdu.tripArmed then send .strainTrip (onZdu (fun u => { u with tripArmed := false }) s) else s
      else onZdu (fun u => { u with tripArmed := true }) s := if_neg (by simp [rezoneIsOpen, hr, h0])

/-- A total at or above the trip count trips once. -/
theorem compareTrip_trips (hr : s.zdu.rezone = none) (h0 : s.zdu.tripCount ≠ 0) (h : s.zdu.tripCount ≤ totalOver s)
    (ha : s.zdu.tripArmed = true) :
    compareTrip s = { s with zdu := { s.zdu with tripArmed := false }, transit := s.transit ++ [.strainTrip] } := by
  rw [compareTrip_on hr h0, if_pos h, if_pos ha]; rfl

/-- Not again before it is armed. -/
theorem compareTrip_tripped (hr : s.zdu.rezone = none) (h0 : s.zdu.tripCount ≠ 0) (h : s.zdu.tripCount ≤ totalOver s)
    (ha : s.zdu.tripArmed = false) : compareTrip s = s := by
  rw [compareTrip_on hr h0, if_pos h, if_neg (by simp [ha])]

/-- A total below it arms it. -/
theorem compareTrip_arms (hr : s.zdu.rezone = none) (h : totalOver s < s.zdu.tripCount) :
    compareTrip s = { s with zdu := { s.zdu with tripArmed := true } } := by
  rw [compareTrip_on hr (by omega), if_neg (Nat.not_le.2 h)]; rfl

/-- No evaluation while a REZONE is open. -/
theorem evalConditions_open (h : s.zdu.rezone.isSome = true) : evalConditions s = s := if_pos h

/-- Everything an evaluation of the conditions does. -/
theorem evalConditions_eq (h : s.zdu.rezone = none) :
    evalConditions s = { s with
      zdu := { s.zdu with anyOver := decide (1 ≤ totalOver s), anyFault := decide (1 ≤ totalFault s) }
      transit := s.transit ++
        (if s.zdu.anyOver = decide (1 ≤ totalOver s) then []
          else [.conditionEdgeReport .anyOver (if decide (1 ≤ totalOver s) then .entry else .exit)]) ++
        (if s.zdu.anyFault = decide (1 ≤ totalFault s) then []
          else [.conditionEdgeReport .anyFault (if decide (1 ≤ totalFault s) then .entry else .exit)]) } := by
  unfold evalConditions
  rw [if_neg (by simp [rezoneIsOpen, h])]
  simp only [reportEdge_eq]
  rfl

/-- A number outside a closed range. -/
theorem inRange_eq_false_iff {lo hi x : Int} : inRange lo hi x = false ↔ x < lo ∨ hi < x := by
  rw [← Bool.not_eq_true, inRange_iff]
  omega

/-- Settles O22: the comparison by the total and the armed flag, the trip count written, the evaluation. -/
theorem strainTripAndConditions : Obligations.StrainTripAndConditions := by
  refine ⟨⟨fun s => ⟨compareTrip_off, compareTrip_trips, compareTrip_tripped, compareTrip_arms⟩,
    fun v s => ⟨fun h => ?stored, fun h => ?range⟩⟩, fun s => ⟨evalConditions_open, evalConditions_eq⟩⟩
  all_goals
    have written : writeCell .settings 0 0 v s =
        if inRange 0 64 (v.toNat : Int) then (writeTripCount v.toNat s, none) else (s, some .range) := rfl
    rw [written]
  case stored => exact if_pos (inRange_iff.2 (by omega))
  case range => exact if_neg (Bool.eq_false_iff.1 (inRange_eq_false_iff.2 (by omega)))

/-! ### The host's derates (R4, R5) -/

section
variable {f : Nat} {v : Word}

/-- A write to an entry not in use. -/
theorem writeCell_zone_vacant (h : zoneCount s ≤ z) : writeCell .zones z f v s = (s, some .vacant) := if_pos h

/-- A write to a field of an entry in use. -/
theorem writeCell_zone_inUse (h : z < zoneCount s) : writeCell .zones z f v s =
    if f ≠ 1 ∧ f ≠ 2 then (s, some .readOnly)
    else if inRange 0 100 (v.toNat : Int) = false then (s, some .range)
    else if f = 1 then (writeManual z v.toNat s, none)
    else (writeOverDerate z v.toNat s, none) := if_neg (Nat.not_le.2 h)

/-- The two derates a host may write, in range. -/
theorem writeCell_zone_taken (h : z < zoneCount s) (hf : f = 1 ∨ f = 2) (hv : v.toNat ≤ 100) :
    writeCell .zones z f v s =
      if f = 1 then (writeManual z v.toNat s, none) else (writeOverDerate z v.toNat s, none) := by
  rw [writeCell_zone_inUse h, if_neg (by omega), if_neg (Bool.not_eq_false _ ▸ inRange_iff.2 (by omega))]

/-- The same out of range. -/
theorem writeCell_zone_range (h : z < zoneCount s) (hf : f = 1 ∨ f = 2) (hv : 100 < v.toNat) :
    writeCell .zones z f v s = (s, some .range) := by
  rw [writeCell_zone_inUse h, if_neg (by omega), if_pos (inRange_eq_false_iff.2 (by omega))]

end

/-- The manual derates of every zone in use written, before the update. -/
def manualsWritten (v : Nat) (s : State) : State :=
  (zonesInUse s).foldl (fun t z => setZone z { zoneEntry z t with manual := v } t) s

/-- SET ZONE DERATE in range, for every zone or for one in use. -/
theorem takeSetZoneDerate_taken {d : Byte} {zb : Byte} (hd : d.toNat ≤ 100)
    (hz : zb = 0xFF ∨ zb.toNat < zoneCount s) :
    takeSetZoneDerate [zb, d] s =
      if zb.toNat = 0xFF then done (updateEffective (zonesInUse s) (manualsWritten d.toNat s))
      else done (writeManual zb.toNat d.toNat s) := by
  refine if_neg ?_
  rintro (h | ⟨hf, hc⟩)
  · omega
  · rcases hz with rfl | hz
    · exact hf rfl
    · omega

/-- Settles O23: a write by its field and value, the request by its zone. -/
theorem manualDerates : Obligations.ManualDerates := by
  refine ⟨fun z f v s => ⟨writeCell_zone_vacant, fun h h1 h2 => ?readOnly, writeCell_zone_range,
      fun h hv => writeCell_zone_taken h (.inl rfl) hv, fun h hv => writeCell_zone_taken h (.inr rfl) hv⟩,
    fun z d s hp hc => ⟨fun h => ?range, fun hd hf hz => ?one, fun hd => ?all⟩⟩
  case readOnly => rw [writeCell_zone_inUse h, if_pos ⟨h1, h2⟩]
  case range =>
    refine hostRequest_answered hp rfl (frameParams_two z d) (if_pos ?_)
    exact h.imp_right fun ⟨hf, hz⟩ => ⟨fun e => hf (BitVec.eq_of_toNat_eq e), hz⟩
  case one =>
    refine (hostRequest_at _ hp rfl (frameParams_two z d)).trans ?_
    rw [takeSetZoneDerate_taken (s := atOwner 0x31 s) hd (.inr hz), if_neg (by exact fun e => hf (BitVec.eq_of_toNat_eq e))]
    rfl
  case all =>
    refine ⟨manualsWritten d.toNat (atOwner 0x31 s), ?_, ?_, fun y hy => ?_⟩
    · refine (hostRequest_at _ hp rfl (frameParams_two 0xFF d)).trans ?_
      rw [takeSetZoneDerate_taken (s := atOwner 0x31 s) hd (.inl rfl), if_pos (by decide)]
      rfl
    · exact foldl_setZone_eq (fun _ e => { e with manual := d.toNat }) _ _
    · refine (zoneEntry_foldl_setZone (fun _ e => { e with manual := d.toNat }) (fun _ _ => rfl) _ _ hy).trans ?_
      exact if_congr List.mem_range rfl rfl

end Sys2Proof.Machine
end

section
/-! REZONE (R13 to R17): its checks, its start over the claims already sent, and its completion. -/
namespace Sys2Proof.Machine

variable {s : State}

/-! ### The claims taken first (log 30) -/

/-- The claims, as the statements list them. -/
theorem isClaim_iff {m : Instr} : isClaim m = true ↔
    (∃ z, m = .overEnter z ∨ m = .overLeave z ∨ m = .faultEnter z ∨ m = .faultLeave z) ∨
      ∃ z v n, m = .crackDerate z v n := by
  cases m <;> simp [isClaim]

/-- A claim's own command has the ZDU take it. -/
theorem exec_claim {m : Instr} (hm : isClaim m = true) (h : s.resetHeld = false) :
    exec m s = .next (takeClaim m (arrive m s)) := by
  cases m
  case overEnter z => exact onArrival_free _ _ h
  case overLeave z => exact onArrival_free _ _ h
  case faultEnter z => exact onArrival_free _ _ h
  case faultLeave z => exact onArrival_free _ _ h
  case crackDerate z v n => exact onArrival_free _ _ h
  all_goals cases hm

/-! ### The checks (R13) -/

/-- Ascending, as the library has it. -/
theorem ascending_iff (bs : List Nat) : ascending bs = true ↔ bs.Pairwise (· < ·) := by
  rw [← List.isChain_iff_pairwise]
  induction bs with
  | nil => simp [ascending]
  | cons x xs ih =>
    cases xs with
    | nil => simp [ascending]
    | cons y ys => simp [ascending, ih]

/-- A lawful boundary list (R1). -/
theorem boundariesOk_iff (bs : List Nat) :
    boundariesOk bs = true ↔ (∀ b ∈ bs, 1 ≤ b ∧ b ≤ 65000) ∧ bs.Pairwise (· < ·) := by
  simp [boundariesOk, ascending_iff]

/-- One station for each two bytes. -/
theorem length_stationsOf (bytes : List Byte) : (stationsOf bytes).length = bytes.length / 2 := by
  induction bytes using stationsOf.induct with
  | case1 lo hi rest ih => simp [stationsOf, ih]; omega
  | case2 bytes h =>
    rcases bytes with _ | ⟨x, _ | ⟨y, ys⟩⟩
    · rfl
    · simp [stationsOf]
    · exact (h x y ys rfl).elim

section
variable {n : Byte} {rest : List Byte}

/-- A zone count of 0. -/
theorem takeRezone_zero (h : n = 0) : takeRezone (n :: rest) s = refuse s .range := by subst h; rfl

/-- A frame of the right length: the checks left. -/
theorem takeRezone_length (h : n ≠ 0) (hl : rest.length = 2 * (n.toNat - 1)) :
    takeRezone (n :: rest) s =
      if 32 < n.toNat ∨ boundariesOk (stationsOf rest) = false then refuse s .range
      else if seqAtRest s = false then refuse s .state
      else if rezoneIsOpen s then refuse s .pending
      else started (openRezone (stationsOf rest) (takeClaims s)) :=
  (if_neg fun e => h (BitVec.eq_of_toNat_eq e)).trans (if_neg (not_not.2 hl))

variable (h : n ≠ 0) (hl : rest.length = 2 * (n.toNat - 1))
include h hl

/-- A boundary list that is not lawful. -/
theorem takeRezone_range (hb : ¬ (n.toNat ≤ 32 ∧ boundariesOk (stationsOf rest) = true)) :
    takeRezone (n :: rest) s = refuse s .range := by
  rw [takeRezone_length h hl, if_pos]
  by_cases hn : n.toNat ≤ 32
  · exact .inr (Bool.eq_false_iff.2 fun hb' => hb ⟨hn, hb'⟩)
  · exact .inl (Nat.not_le.1 hn)

variable (hb : n.toNat ≤ 32 ∧ boundariesOk (stationsOf rest) = true)
include hb

/-- A lawful list: the checks of the states are left. -/
theorem takeRezone_lawful :
    takeRezone (n :: rest) s =
      if seqAtRest s = false then refuse s .state
      else if rezoneIsOpen s then refuse s .pending
      else started (openRezone (stationsOf rest) (takeClaims s)) := by
  rw [takeRezone_length h hl, if_neg]
  rintro (hn | hf)
  · omega
  · simp [hb.2] at hf

/-- The sequencer not at rest. -/
theorem takeRezone_state (hq : ¬ seqAtRest s = true) : takeRezone (n :: rest) s = refuse s .state := by
  rw [takeRezone_lawful h hl hb, if_pos (by simpa using hq)]

/-- A REZONE open. -/
theorem takeRezone_pending (hq : seqAtRest s = true) (hr : s.zdu.rezone.isSome = true) :
    takeRezone (n :: rest) s = refuse s .pending := by
  rw [takeRezone_lawful h hl hb, if_neg (by simp [hq]), if_pos (by simpa [rezoneIsOpen] using hr)]

/-- Taken. -/
theorem takeRezone_started (hq : seqAtRest s = true) (hr : s.zdu.rezone = none) :
    takeRezone (n :: rest) s = started (openRezone (stationsOf rest) (takeClaims s)) := by
  rw [takeRezone_lawful h hl hb, if_neg (by simp [hq]), if_neg (by simp [rezoneIsOpen, hr])]

end

/-! ### The start (R14) -/

/-- The state an owner takes a request in differs in SP alone. -/
theorem atOwner_eq_withSp (code : Byte) (s : State) : atOwner code s = withSp (atOwner code s).sp s := rfl

/-- The claims are taken alike whatever SP holds. -/
theorem takeClaims_atOwner (code : Byte) (s : State) : takeClaims (atOwner code s) = atOwner code (takeClaims s) := by
  have hsp : (takeClaims s).sp = s.sp := (congrArg State.sp (takeClaims_event s)).trans rfl
  rw [atOwner_eq_withSp, leavesSp_takeClaims, atOwner_eq_withSp code (takeClaims s)]
  simp [atOwner, hsp]

/-- Every entry of the table written by its number. -/
theorem get_foldl_indices {α : Type} {n : Nat} (f : Fin n → α) (t : Table α n) (j : Fin n) :
    ((indices n).foldl (fun t i => t.set i (f i)) t).get j = f j := by
  rw [get_foldl_set (fun i _ => f i) (fun _ _ => rfl), if_pos (mem_indices j)]

/-- The entries at the start of a REZONE. -/
theorem zoneEntry_openRezone (bs : List Nat) {z : Nat} (hz : z < 32) :
    zoneEntry z (openRezone bs s) = rezonedEntry (bs.length + 1) z s := by
  have h := get_foldl_indices (fun z : Fin Config.zones => rezonedEntry (bs.length + 1) z.val s) s.zdu.zones ⟨z, hz⟩
  unfold zoneEntry
  exact (Table.getD_val (openRezone bs s).zdu.zones ⟨z, hz⟩ {}).trans h

/-- Settles O24: the claims in transit, the checks in R13's order, and the start over what the claims leave. -/
theorem rezoneIsTaken : Obligations.RezoneIsTaken := by
  unfold Obligations.RezoneIsTaken
  intro claim
  have hclaim : ∀ m, isClaim m = true ↔ claim m := fun m => isClaim_iff
  have hnot : ∀ {m}, ¬ claim m → isClaim m = false := fun h => Bool.eq_false_iff.2 (mt (hclaim _).1 h)
  refine ⟨fun s h => takeClaims_none fun m hm => hnot (h m hm), fun s pre m post hs ht hp hm => ?oldest,
    fun n rest s hp hr => ?request⟩
  case oldest =>
    have hm := (hclaim m).2 hm
    exact ⟨_, exec_claim hm hs, takeClaims_first ht (fun x hx => hnot (hp x hx)) hm⟩
  case request =>
    intro frame bs lawful c atRest
    have hf : frameParams frame = some (n :: rest) := frameParams_right (params := n :: rest) hr
    have hlawful : n.toNat ≤ 32 ∧ boundariesOk (stationsOf rest) = true ↔ lawful := by rw [boundariesOk_iff]
    have hrest : seqAtRest s = true ↔ atRest := seqAtRest_iff
    refine ⟨fun h => ?zero, fun h hl => ?format, fun h hl => ⟨fun hb => ?range, fun hb hq => ?state,
      fun hb hq ho => ?pending, fun hb hq ho => ?started⟩⟩
    case zero => exact hostRequest_answered hp rfl hf (takeRezone_zero h)
    case format =>
      exact hostRequest_answered hp rfl hf
        (takeRezone_format (.inr ⟨fun e => h (BitVec.eq_of_toNat_eq e), by simp; omega⟩))
    case range => exact hostRequest_answered hp rfl hf (takeRezone_range h hl (mt hlawful.1 hb))
    case state => exact hostRequest_answered hp rfl hf (takeRezone_state h hl (hlawful.2 hb) (mt hrest.1 hq))
    case pending => exact hostRequest_answered hp rfl hf (takeRezone_pending h hl (hlawful.2 hb) (hrest.2 hq) ho)
    case started =>
      have hlen : bs.length + 1 = n.toNat := by
        have hn : n.toNat ≠ 0 := fun e => h (BitVec.eq_of_toNat_eq e)
        simp only [bs, length_stationsOf, hl]
        omega
      refine ⟨openRezone bs c, hostRequest_answered hp rfl hf ?_, hlen, ?_, fun z hz => ?_⟩
      · rw [takeRezone_started (s := atOwner 0x30 s) h hl (hlawful.2 hb) (hrest.2 hq) ho, takeClaims_atOwner]
        rfl
      · have hc : c = _ := takeClaims_event s
        rw [hc]
        rfl
      · rw [zoneEntry_openRezone bs hz, hlen]
        rfl

/-! ### The completion (R15, R16) -/

/-- SWEPT counts in an open REZONE. -/
theorem takeSwept_open {r : Rezone} (h : s.zdu.rezone = some r) :
    takeSwept s = { s with zdu := { s.zdu with rezone := some { r with sweepCount := r.sweepCount + 1 } } } := by
  simp [takeSwept, onZdu, h]

/-- SWEPT outside one changes nothing. -/
theorem takeSwept_none (h : s.zdu.rezone = none) : takeSwept s = s := by
  have : { s.zdu with rezone := s.zdu.rezone.map fun r => { r with sweepCount := r.sweepCount + 1 } } = s.zdu := by
    rw [h]; exact congrArg (fun r => { s.zdu with rezone := r }) h.symm
  exact congrArg (fun u => { s with zdu := u }) this

/-- SWEEP_DONE outside a REZONE changes nothing. -/
theorem takeSweepDone_none (o : Owner) (h : s.zdu.rezone = none) : takeSweepDone o s = s := by
  simp only [takeSweepDone, h]

/-- SWEEP_DONE in a REZONE: marked, and completed with all three marks in. -/
theorem takeSweepDone_open (o : Owner) {r : Rezone} (h : s.zdu.rezone = some r) :
    takeSweepDone o s =
      let s1 := onZdu (fun u => { u with rezone := some (r.mark o) }) s
      if (r.mark o).allDone then completeRezone s1 else s1 := by
  simp only [takeSweepDone, h]

/-- The mark of an owner added. -/
theorem Rezone.mark_eq (r : Rezone) (o : Owner) : r.mark o =
    { sweepCount := r.sweepCount, gscDone := r.gscDone || o == .gsc, cwuDone := r.cwuDone || o == .cwu
      achDone := r.achDone || o == .ach } := by
  cases o <;> simp [Rezone.mark]

/-- All three marks in. -/
theorem Rezone.allDone_iff (r : Rezone) :
    r.allDone = true ↔ r.gscDone = true ∧ r.cwuDone = true ∧ r.achDone = true := by
  simp [Rezone.allDone, and_assoc]

/-- Settles O25: SWEPT and SWEEP_DONE by the REZONE and by the marks in. -/
theorem rezoneCompletes : Obligations.RezoneCompletes := by
  refine ⟨fun o s hs h => ⟨?_, ?_⟩, fun o r s hs h => ?opened⟩
  · exact (onArrival_free _ _ hs).trans (congrArg _ (takeSwept_none (s := arrive _ s) h))
  · exact (onArrival_free _ _ hs).trans (congrArg _ (takeSweepDone_none (s := arrive _ s) o h))
  case opened =>
    intro marked
    have hm : r.mark o = marked := Rezone.mark_eq r o
    have hd := marked.allDone_iff
    have done : exec (.sweepDone o) s = _ :=
      (onArrival_free _ _ hs).trans (congrArg _ (takeSweepDone_open (s := arrive (.sweepDone o) s) o h))
    rw [done, hm]
    refine ⟨(onArrival_free _ _ hs).trans (congrArg _ (takeSwept_open (s := arrive _ s) h)), fun hn => ?_,
      fun h1 h2 h3 => ?_⟩
    · exact congrArg _ (if_neg (mt hd.1 hn))
    · refine congrArg _ ((if_pos (hd.2 ⟨h1, h2, h3⟩)).trans ?_)
      simp [completeRezone, raise, send, onZdu, zonesInUse, zoneCount, arrive]

end Sys2Proof.Machine
end

section
/-! The owners' sweeps (R15, R38, R86, R142, R165): the order, one record, and the last one. -/
namespace Sys2Proof.Machine

variable {s : State}

/-- One record swept, and the next ordered or the end told. -/
theorem takeSweepRecord_at {o : Owner} {n : Nat} (h : sweepOf o s = .at n) :
    takeSweepRecord o s =
      let s1 := send (.swept o) (setSweep o (.at (n + 1)) (sweepOne o n s))
      if n + 1 < sweepSize o then send (.sweepRecord o) s1 else send (.sweepDone o) (setSweep o .none s1) := by
  simp only [takeSweepRecord, h]

/-- A sweep's step with its two ends written as one. -/
theorem exec_sweepRecord_at {o : Owner} {n : Nat} (hs : s.resetHeld = false) (h : sweepOf o s = .at n) :
    exec (.sweepRecord o) s =
      let s1 := setSweep o (if n + 1 < sweepSize o then .at (n + 1) else .none)
        (sweepOne o n (arrive (.sweepRecord o) s))
      .next { s1 with transit := s1.transit ++ [.swept o] ++
        [if n + 1 < sweepSize o then .sweepRecord o else .sweepDone o] } := by
  have h' : sweepOf o (arrive (.sweepRecord o) s) = .at n := by cases o <;> exact h
  refine ((onArrival_free _ _ hs).trans (congrArg _ (takeSweepRecord_at h'))).trans (congrArg _ ?_)
  by_cases hn : n + 1 < sweepSize o <;> cases o <;> simp [hn, setSweep, send, onGsc, onCwu, onAch]

/-- GSC's step at an open record: decoded, with the claims of its state. -/
theorem sweepGauge_eq (i : Fin Config.gauges) (s : State) : sweepGauge i s = { s with
    gsc := { s.gsc with gauges :=
      if (gauge i s).state = .vacant then s.gsc.gauges
      else s.gsc.gauges.set i { gauge i s with zone := decodeStation (gauge i s).station s } }
    transit := s.transit ++
      (if (gauge i s).countedOver then [.overEnter (decodeStation (gauge i s).station s)] else []) ++
      if (gauge i s).countedFault then [.faultEnter (decodeStation (gauge i s).station s)] else [] } := by
  unfold sweepGauge
  by_cases hv : (gauge i s).state = .vacant
  · simp [hv, Gauge.countedOver, Gauge.countedFault, GaugeState.cause?]
  · simp [hv, setGauge, onGsc, sendAll]

/-- Counted over, as the statements have it (R85). -/
theorem Gauge.countedOver_iff {g : Gauge} :
    g.countedOver = true ↔ g.state ≠ .vacant ∧ (g.state = .over ∨ g.overHeld = true) := by
  simp [Gauge.countedOver]

/-- Counted fault, as the statements have it (R85). -/
theorem Gauge.countedFault_iff {g : Gauge} :
    g.countedFault = true ↔ g.state ∈ [.fault .open, .fault .range, .fault .link, .fault .shunt] := by
  unfold Gauge.countedFault
  cases hs : g.state with
  | fault c => cases c <;> simp [GaugeState.cause?]
  | _ => simp [GaugeState.cause?]

/-- A loop is among the first 24 records CWU sweeps. -/
theorem sweepCwu_loop (l : Fin Config.loops) : sweepCwu l.val s = sweepLoop l s := by simp [sweepCwu]

/-- A sensor is among the next 16. -/
theorem sweepCwu_sensor (c : Fin Config.sensors) : sweepCwu (24 + c.val) s = sweepSensor c s := by
  have hl : Table.index? Config.loops (24 + c.val) = none := Table.index?_ge (by show 24 ≤ 24 + c.val; omega)
  have hs : Table.index? Config.sensors (24 + c.val - Config.loops) = some c := by
    rw [Nat.add_sub_cancel_left, Table.index?_val]
  simp only [sweepCwu, hl, hs]

/-- 40 records come before the cracks. -/
theorem crackSweepBase_eq : crackSweepBase = 40 := rfl

/-- A crack record is among the last 48. -/
theorem sweepCwu_crack (i : Fin Config.cracks) : sweepCwu (40 + i.val) s = sweepCrack i s := by
  have hl : Table.index? Config.loops (40 + i.val) = none := Table.index?_ge (by show 24 ≤ 40 + i.val; omega)
  have hs : Table.index? Config.sensors (40 + i.val - Config.loops) = none :=
    Table.index?_ge (by show 16 ≤ 40 + i.val - 24; omega)
  have hc : Table.index? Config.cracks (40 + i.val - crackSweepBase) = some i := by simp [crackSweepBase_eq]
  simp only [sweepCwu, hl, hs, hc]

/-- CWU's step at a crack record: decoded, with the claim of its zone over the records swept so far. -/
theorem sweepCrack_eq (i : Fin Config.cracks) (s : State) :
    let z := decodeStation (crack i s).seed s
    let put : State := { s with cwu := { s.cwu with
      cracks := s.cwu.cracks.set i { crack i s with zone := z }, sweep := .at (40 + i.val + 1) } }
    sweepCrack i s = { s with
      cwu := { s.cwu with
        cracks := if (crack i s).state = .vacant then s.cwu.cracks else s.cwu.cracks.set i { crack i s with zone := z }
        sweep := .at (40 + i.val + 1) }
      transit := s.transit ++ if (crack i s).state = .vacant then [] else [crackClaim put z] } := by
  unfold sweepCrack
  by_cases hv : (crack i s).state = .vacant
  · simp [hv, onCwu, crackSweepBase_eq]
  · simp [hv, onCwu, setCrack, send, crackSweepBase_eq, decodeStation]

/-- Settles O26: the order at each owner, then the step of each by its record. -/
theorem ownersSweepTheirRecords : Obligations.OwnersSweepTheirRecords := by
  refine ⟨fun s hs => ⟨onArrival_free _ _ hs, onArrival_free _ _ hs, onArrival_free _ _ hs⟩,
    fun a s hs h => ?actuator, fun i s hs h => ?gauge, fun l s hs h => ?loop, fun c s hs h => ?sensor,
    fun i s hs h => ?crack⟩
  case actuator =>
    have hn : a.val + 1 < sweepSize .ach ↔ ¬ a.val = 7 := by
      have : a.val < 8 := a.isLt
      show a.val + 1 < 8 ↔ ¬ a.val = 7
      omega
    rw [exec_sweepRecord_at (o := .ach) hs h]
    simp only [hn, ite_not, sweepOne, Table.index?_val]
    rfl
  case gauge =>
    intro g z
    have hn : i.val + 1 < sweepSize .gsc ↔ ¬ i.val = 511 := by
      have : i.val < 512 := i.isLt
      show i.val + 1 < 512 ↔ ¬ i.val = 511
      omega
    rw [exec_sweepRecord_at (o := .gsc) hs h]
    simp only [hn, ite_not, sweepOne, Table.index?_val, sweepGauge_eq, Gauge.countedOver_iff, Gauge.countedFault_iff]
    rfl
  case loop =>
    have hn : l.val + 1 < sweepSize .cwu := by
      have : l.val < 24 := l.isLt
      show l.val + 1 < 88
      omega
    rw [exec_sweepRecord_at (o := .cwu) hs h]
    simp only [hn, if_true, sweepOne, sweepCwu_loop, List.append_assoc]
    rfl
  case sensor =>
    have hn : 24 + c.val + 1 < sweepSize .cwu := by
      have : c.val < 16 := c.isLt
      show 24 + c.val + 1 < 88
      omega
    rw [exec_sweepRecord_at (o := .cwu) hs h]
    simp only [hn, if_true, sweepOne, sweepCwu_sensor, List.append_assoc]
    rfl
  case crack =>
    intro r z swept
    have hn : 40 + i.val + 1 < sweepSize .cwu ↔ ¬ i.val = 47 := by
      have : i.val < 48 := i.isLt
      show 40 + i.val + 1 < 88 ↔ ¬ i.val = 47
      omega
    rw [exec_sweepRecord_at (o := .cwu) hs h]
    simp only [hn, ite_not, sweepOne, sweepCwu_crack, sweepCrack_eq]
    rfl

end Sys2Proof.Machine
end

section
/-! What the invariants speak of, as one value: the ZDU, the keys of the gauge records with the channel map, the pending
hits with the ties of loops and cracks, the scale and the pass count. The operations that leave all of it as it was. -/
namespace Sys2Proof.Machine

variable {s : State}

/-- What the channel map speaks of in a gauge record (R84). -/
def Gauge.key (g : Gauge) : Bool × Fin Config.scanners × Fin Config.channels := (g.state == .vacant, g.scanner, g.channel)

/-- What the binding speaks of in a loop record (R132). -/
def Loop.tie (r : Loop) : LoopState × Option (Fin Config.cracks) × Bool := (r.state, r.bound, r.timer.isSome)

/-- What the binding speaks of in a crack record (R132). -/
def Crack.tie (r : Crack) : CrackState × List (Fin Config.loops) := (r.state, r.loops)

/-- The keys and the channel map. -/
def keysOf (s : State) : Table (Bool × Fin Config.scanners × Fin Config.channels) Config.gauges × Table (Option (Fin Config.gauges)) 512 :=
  (s.gsc.gauges.map Gauge.key, s.gsc.chanMap)

/-- The ties of loops and cracks. -/
def tiesOf (s : State) : Table (LoopState × Option (Fin Config.cracks) × Bool) Config.loops ×
    Table (CrackState × List (Fin Config.loops)) Config.cracks :=
  (s.cwu.loops.map Loop.tie, s.cwu.cracks.map Crack.tie)

/-- The scale and the pass count. -/
def rangeOf (s : State) : Nat × Nat := (s.lsq.scale, s.lsq.passCount)

/-- Everything the invariants speak of. -/
def wardOf (s : State) := (s.zdu, keysOf s, s.cwu.hits, tiesOf s, rangeOf s)

/-- A fold of operations that each keep it keeps it. -/
theorem wardOf_foldl {α : Type} (f : State → α → State) (h : ∀ t x, wardOf (f t x) = wardOf t) (xs : List α) (s : State) :
    wardOf (xs.foldl f s) = wardOf s := by
  induction xs generalizing s with
  | nil => rfl
  | cons x xs ih => rw [List.foldl_cons, ih, h]

/-! ### ACH and LSQ -/

@[simp] theorem setBank_scale (q : Lsq) (n : BankName) (b : Bank) : (q.setBank n b).scale = q.scale := by cases n <;> rfl
@[simp] theorem setBank_passCount (q : Lsq) (n : BankName) (b : Bank) : (q.setBank n b).passCount = q.passCount := by
  cases n <;> rfl
@[simp] theorem wardOf_onLsq {f : Lsq → Lsq} (h : ∀ q, ((f q).scale, (f q).passCount) = (q.scale, q.passCount)) :
    wardOf (onLsq f s) = wardOf s := by
  simp [wardOf, keysOf, tiesOf, rangeOf, onLsq, h]
@[simp] theorem wardOf_send (m : Instr) : wardOf (send m s) = wardOf s := rfl
@[simp] theorem wardOf_sendAll (ms : List Instr) : wardOf (sendAll ms s) = wardOf s := rfl
@[simp] theorem wardOf_arrive (m : Instr) : wardOf (arrive m s) = wardOf s := rfl
@[simp] theorem wardOf_raise (c : EventClass) : wardOf (raise c s) = wardOf s := rfl
@[simp] theorem wardOf_transmit (l : Link) (u : List Byte) : wardOf (transmit l u s) = wardOf s := rfl
@[simp] theorem wardOf_setAct (a : Fin Config.actuators) (r : Actuator) : wardOf (setAct a r s) = wardOf s := rfl
@[simp] theorem wardOf_setSeq (q : SeqState) : wardOf (setSeq q s) = wardOf s := rfl
@[simp] theorem wardOf_setCause (c : HaltCause) : wardOf (setCause c s) = wardOf s := rfl
@[simp] theorem wardOf_emptyAwaited : wardOf (emptyAwaited s) = wardOf s := rfl
@[simp] theorem wardOf_reportEdge (c : CondClass) (b d : Bool) : wardOf (reportEdge c b d s) = wardOf s := by
  unfold reportEdge; split <;> rfl
@[simp] theorem wardOf_sendSet (a : Fin Config.actuators) (x : Int) (r : Nat) :
    wardOf (sendSet a x r s) = wardOf s := rfl
@[simp] theorem wardOf_sendHold (a : Fin Config.actuators) : wardOf (sendHold a s) = wardOf s := rfl
@[simp] theorem wardOf_sendFree (a : Fin Config.actuators) : wardOf (sendFree a s) = wardOf s := rfl
@[simp] theorem wardOf_oweHold (a : Fin Config.actuators) : wardOf (oweHold a s) = wardOf s := rfl
@[simp] theorem wardOf_enterFault (a : Fin Config.actuators) (c : ActCause) :
    wardOf (enterFault a c s) = wardOf s := by
  unfold enterFault; split <;> rfl
@[simp] theorem wardOf_takeSetAtAch (a : Fin Config.actuators) (x : Int) (r : Nat) :
    wardOf (takeSetAtAch a x r s) = wardOf s := by
  unfold takeSetAtAch; dsimp only; (repeat' split) <;> simp
@[simp] theorem wardOf_recordAnswer (a : Fin Config.actuators) (x : Int) (t : Option Tag) :
    wardOf (recordAnswer a x t s) = wardOf s := rfl
@[simp] theorem wardOf_takeSetCommand (a : Fin Config.actuators) (x : Int) (r : Nat) :
    wardOf (takeSetCommand a x r s) = wardOf s := by
  simp [takeSetCommand]
@[simp] theorem wardOf_takeHoldCommand (a : Fin Config.actuators) : wardOf (takeHoldCommand a s) = wardOf s := by
  unfold takeHoldCommand; split <;> rfl
@[simp] theorem wardOf_startFreeWait (a : Fin Config.actuators) : wardOf (startFreeWait a s) = wardOf s := rfl
@[simp] theorem wardOf_takeFreeCommand (a : Fin Config.actuators) : wardOf (takeFreeCommand a s) = wardOf s := by
  unfold takeFreeCommand; dsimp only; (repeat' split) <;> simp
@[simp] theorem wardOf_endWaitFree (a : Fin Config.actuators) : wardOf (endWaitFree a s) = wardOf s := rfl
@[simp] theorem wardOf_endWaitFault (a : Fin Config.actuators) (c : ActCause) :
    wardOf (endWaitFault a c s) = wardOf s := by
  unfold endWaitFault; dsimp only; split <;> simp
@[simp] theorem wardOf_storeReport (a : Fin Config.actuators) (rep : CardReport) :
    wardOf (storeReport a rep s) = wardOf s := by
  unfold storeReport; split <;> rfl
@[simp] theorem wardOf_followingCheck (a : Fin Config.actuators) (rep : CardReport) :
    wardOf (followingCheck a rep s) = wardOf s := by
  unfold followingCheck; dsimp only; split <;> simp
@[simp] theorem wardOf_settle (a : Fin Config.actuators) : wardOf (Machine.settle a s) = wardOf s := rfl
@[simp] theorem wardOf_judgeDriven (a : Fin Config.actuators) (rep : CardReport) :
    wardOf (judgeDriven a rep s) = wardOf s := by
  unfold judgeDriven; dsimp only; (repeat' split) <;> simp
@[simp] theorem wardOf_judgeFreeWait (a : Fin Config.actuators) (rep : CardReport) :
    wardOf (judgeFreeWait a rep s) = wardOf s := by
  unfold judgeFreeWait; (repeat' split) <;> simp
@[simp] theorem wardOf_judgeReport (a : Fin Config.actuators) (rep : CardReport) (b : Bool) :
    wardOf (judgeReport a rep b s) = wardOf s := by
  unfold judgeReport; dsimp only; (repeat' split) <;> simp
@[simp] theorem wardOf_takeReport (a : Fin Config.actuators) (u : List Byte) :
    wardOf (takeReport a u s) = wardOf s := by
  unfold takeReport; split <;> simp
@[simp] theorem wardOf_loseLink (a : Fin Config.actuators) : wardOf (loseLink a s) = wardOf s := rfl
@[simp] theorem wardOf_takeReportTimerExpiry (a : Fin Config.actuators) :
    wardOf (takeReportTimerExpiry a s) = wardOf s := by
  unfold takeReportTimerExpiry; (repeat' split) <;> simp
@[simp] theorem wardOf_takeSettleTimerExpiry (a : Fin Config.actuators) :
    wardOf (takeSettleTimerExpiry a s) = wardOf s := by
  unfold takeSettleTimerExpiry; (repeat' split) <;> simp
@[simp] theorem wardOf_takeFreeTimerExpiry (a : Fin Config.actuators) :
    wardOf (takeFreeTimerExpiry a s) = wardOf s := by
  unfold takeFreeTimerExpiry; (repeat' split) <;> simp
@[simp] theorem wardOf_takeEnableActuator (a : Fin Config.actuators) :
    wardOf (takeEnableActuator a s).1 = wardOf s := by
  unfold takeEnableActuator; dsimp only; (repeat' split) <;> simp
@[simp] theorem wardOf_takeDisableActuator (a : Fin Config.actuators) :
    wardOf (takeDisableActuator a s).1 = wardOf s := by
  unfold takeDisableActuator; split <;> rfl
@[simp] theorem wardOf_takeClearFault (a : Fin Config.actuators) : wardOf (takeClearFault a s).1 = wardOf s := by
  unfold takeClearFault; dsimp only; (repeat' split) <;> simp
@[simp] theorem wardOf_storeActStation (a : Fin Config.actuators) (x : Nat) :
    wardOf (storeActStation a x s) = wardOf s := rfl
@[simp] theorem wardOf_writeActuator (a : Fin Config.actuators) (f : Nat) (x : Int) :
    wardOf (writeActuator a f x s).1 = wardOf s := by
  unfold writeActuator restWrite; dsimp only; (repeat' split) <;> simp
@[simp] theorem wardOf_sweepActuator (a : Fin Config.actuators) : wardOf (sweepActuator a s) = wardOf s := rfl
@[simp] theorem wardOf_setStandbyState (b : BankState) : wardOf (setStandbyState b s) = wardOf s := by
  simp [setStandbyState, wardOf, keysOf, tiesOf, rangeOf]
@[simp] theorem wardOf_exchangeRoles : wardOf (exchangeRoles s) = wardOf s := rfl
@[simp] theorem wardOf_swapAtRest : wardOf (swapAtRest s) = wardOf s := rfl
@[simp] theorem wardOf_takeCommitBank : wardOf (takeCommitBank s).1 = wardOf s := by
  unfold takeCommitBank; (repeat' split) <;> simp
@[simp] theorem wardOf_takeSwapInFlight : wardOf (takeSwapInFlight s).1 = wardOf s := by
  unfold takeSwapInFlight; (repeat' split) <;> rfl
@[simp] theorem wardOf_takeSwapBank : wardOf (takeSwapBank s).1 = wardOf s := by
  unfold takeSwapBank; (repeat' split) <;> simp
@[simp] theorem wardOf_takeCancelSwap : wardOf (takeCancelSwap s).1 = wardOf s := by
  unfold takeCancelSwap; split <;> rfl
@[simp] theorem wardOf_settleSwap : wardOf (settleSwap s) = wardOf s := by
  unfold settleSwap
  split
  · rfl
  · simp
@[simp] theorem wardOf_writeStandbyBank (f : Nat) (x : Int) : wardOf (writeStandbyBank f x s).1 = wardOf s := by
  unfold writeStandbyBank; (repeat' split) <;> simp [wardOf, keysOf, tiesOf, rangeOf]
@[simp] theorem wardOf_commandSet (a : Fin Config.actuators) (x : Int) (r : Nat) :
    wardOf (commandSet a x r s) = wardOf s := rfl
@[simp] theorem wardOf_commandSets (r : Nat) (ts : List (Fin Config.actuators × Int)) :
    wardOf (commandSets r ts s) = wardOf s := by
  exact wardOf_foldl _ (fun _ _ => by simp) _ _
@[simp] theorem wardOf_enterSeq (q : SeqState) : wardOf (enterSeq q s) = wardOf s := rfl
@[simp] theorem wardOf_startStep : wardOf (startStep s) = wardOf s := by
  simp [startStep]
@[simp] theorem wardOf_endRamp (q : SeqState) : wardOf (endRamp q s) = wardOf s := rfl
@[simp] theorem wardOf_startRestRamp : wardOf (startRestRamp s) = wardOf s := by
  unfold startRestRamp; split <;> simp
@[simp] theorem wardOf_closeTheInterval : wardOf (closeTheInterval s) = wardOf s := rfl
@[simp] theorem wardOf_countIntervalPass : wardOf (countIntervalPass s) = wardOf s := by
  unfold countIntervalPass; dsimp only; split <;> simp
@[simp] theorem wardOf_turnDirection : wardOf (turnDirection s) = wardOf s := by
  unfold turnDirection; split <;> rfl
@[simp] theorem wardOf_settleAndTurn (b : Bool) : wardOf (settleAndTurn b s) = wardOf s := by
  unfold settleAndTurn; (repeat' split) <;> simp
@[simp] theorem wardOf_obeyFall (c : Fin Config.actuators → Bool) : wardOf (obeyFall c s) = wardOf s := by
  unfold obeyFall; split <;> simp
@[simp] theorem wardOf_takeDerateFall (z : Nat) : wardOf (takeDerateFall z s) = wardOf s := by
  simp [takeDerateFall]
@[simp] theorem wardOf_beginArming (l : List LinePlace) : wardOf (beginArming l s) = wardOf s := by
  have h : wardOf (onLsq (armed l) s) = wardOf s := wardOf_onLsq fun _ => rfl
  simp [beginArming, h]
@[simp] theorem wardOf_takeArm : wardOf (takeArm s).1 = wardOf s := by
  unfold takeArm; dsimp only; (repeat' split) <;> simp
@[simp] theorem wardOf_beginRunning : wardOf (beginRunning s) = wardOf s := by
  simp [beginRunning]
@[simp] theorem wardOf_startChecked : wardOf (startChecked s).1 = wardOf s := by
  unfold startChecked; (repeat' split) <;> simp
@[simp] theorem wardOf_takeStart : wardOf (takeStart s).1 = wardOf s := by
  unfold takeStart; split <;> simp
@[simp] theorem wardOf_takeResume : wardOf (takeResume s).1 = wardOf s := by
  unfold takeResume; split <;> simp
@[simp] theorem wardOf_enterDisarming : wardOf (enterDisarming s) = wardOf s := rfl
@[simp] theorem wardOf_takeDisarm : wardOf (takeDisarm s).1 = wardOf s := by
  unfold takeDisarm; split <;> rfl
@[simp] theorem wardOf_enterIdle : wardOf (enterIdle s) = wardOf s := by
  unfold enterIdle; split <;> rfl
@[simp] theorem wardOf_takeFreed (a : Fin Config.actuators) : wardOf (takeFreed a s) = wardOf s := by
  unfold takeFreed; dsimp only; (repeat' split) <;> simp
@[simp] theorem wardOf_takeHalt : wardOf (takeHalt s).1 = wardOf s := by
  unfold takeHalt; split <;> rfl
@[simp] theorem wardOf_takeHaltRequest (c : HaltCause) : wardOf (takeHaltRequest c s) = wardOf s := by
  unfold takeHaltRequest; split <;> rfl
@[simp] theorem wardOf_haltNow (c : HaltCause) (o : HeldOrigin) : wardOf (haltNow c o s) = wardOf s := rfl
@[simp] theorem wardOf_takeStopNow : wardOf (takeStopNow s).1 = wardOf s := by
  unfold takeStopNow; split <;> rfl
@[simp] theorem wardOf_takeRest : wardOf (takeRest s).1 = wardOf s := by
  unfold takeRest; split <;> simp
@[simp] theorem wardOf_recordFault (a : Fin Config.actuators) : wardOf (recordFault a s) = wardOf s := rfl
@[simp] theorem wardOf_takeActFault (a : Fin Config.actuators) : wardOf (takeActFault a s) = wardOf s := by
  unfold takeActFault; (repeat' split) <;> simp
@[simp] theorem wardOf_afterSettle (a : Fin Config.actuators) : wardOf (afterSettle a s) = wardOf s := by
  unfold afterSettle; (repeat' split) <;> rfl
@[simp] theorem wardOf_takeSettled (a : Fin Config.actuators) (t : Tag) : wardOf (takeSettled a t s) = wardOf s := by
  unfold takeSettled; split <;> simp
@[simp] theorem wardOf_takeCloseInterval : wardOf (takeCloseInterval s).1 = wardOf s := rfl
@[simp] theorem wardOf_takeRezoneNotice (b : Bool) : wardOf (takeRezoneNotice b s) = wardOf s := rfl
@[simp] theorem wardOf_writeSequencerSetting (f : Nat) (x : Int) :
    wardOf (writeSequencerSetting f x s).1 = wardOf s := by
  unfold writeSequencerSetting; (repeat' split) <;> rfl

/-! ### GSC -/

/-- A record replaced by one of the same image leaves the image of the table. -/
theorem table_map_set {α β : Type} {n : Nat} (f : α → β) (t : Table α n) (i : Fin n) {x : α} (h : f x = f (t.get i)) :
    (t.set i x).map f = t.map f :=
  Table.ext_get fun j => by
    rw [Table.get_map, Table.get_map, Table.get_set]
    split
    · next e => rw [h, e]
    · rfl

/-- A table changed record by record, each to one of the same image. -/
theorem table_map_map {α β : Type} {n : Nat} (f : α → β) {g : α → α} (t : Table α n) (h : ∀ x, f (g x) = f x) :
    (t.map g).map f = t.map f :=
  Table.ext_get fun j => by simp [h]

theorem wardOf_setGauge {i : Fin Config.gauges} {g : Gauge} (h : g.key = (gauge i s).key) :
    wardOf (setGauge i g s) = wardOf s := by
  simp only [wardOf, keysOf, tiesOf, rangeOf, setGauge_gsc, table_map_set _ _ _ h]
  rfl
theorem wardOf_moveGauge {i : Fin Config.gauges} {g : Gauge} (h : g.key = (gauge i s).key) :
    wardOf (moveGauge i g s) = wardOf s := by
  rw [moveGauge, wardOf_sendAll, wardOf_setGauge h]
theorem wardOf_moveGauges {f : Gauge → Gauge} (h : ∀ g, (f g).key = g.key) : wardOf (moveGauges f s) = wardOf s := by
  simp only [moveGauges, wardOf_sendAll]
  simp only [wardOf, keysOf, tiesOf, rangeOf, onGsc, table_map_map _ _ h]
@[simp] theorem wardOf_leaveZero (n : Nat) (b : Bool) : wardOf (leaveZero n b s) = wardOf s := by
  unfold leaveZero; dsimp only; (repeat' split) <;> rfl
@[simp] theorem wardOf_countMiss : wardOf (countMiss s) = wardOf s := rfl
@[simp] theorem wardOf_endShunt (i : Fin Config.gauges) (o : ShuntOutcome) : wardOf (endShunt i o s) = wardOf s := by
  have h := table_map_set Gauge.key s.gsc.gauges i (x := { gauge i s with shuntPending := false }) rfl
  simp only [endShunt_eq, wardOf, keysOf, tiesOf, rangeOf, h]
theorem wardOf_applyEffect {i : Fin Config.gauges} {e : ReadingEffect} (h : e.gauge.key = (gauge i s).key) :
    wardOf (applyEffect i e s) = wardOf s := by
  unfold applyEffect; dsimp only; (repeat' split) <;> simp [wardOf_moveGauge h]
@[simp] theorem wardOf_alertEvent (f : State → State) : wardOf (alertEvent f s) = wardOf (f s) := wardOf_reportEdge _ _ _
@[simp] theorem wardOf_setScannerLink (k : Fin Config.scanners) (l : ScannerLink) :
    wardOf (setScannerLink k l s) = wardOf s := rfl
@[simp] theorem wardOf_abandonShuntOn (k : Fin Config.scanners) : wardOf (abandonShuntOn k s) = wardOf s := by
  unfold abandonShuntOn; (repeat' split) <;> simp

/-- A judged record is open. -/
theorem GaugeState.judged_ne_vacant {st : GaugeState} (h : st.judged = true) : st ≠ .vacant := by
  rintro rfl; cases h

theorem key_lostGauge (k : Fin Config.scanners) (g : Gauge) : (lostGauge k g).key = g.key := by
  unfold lostGauge
  split
  · next h => simp [Gauge.key, Gauge.enterFault, GaugeState.judged_ne_vacant h.2]
  · rfl
theorem key_returnedGauge (k : Fin Config.scanners) (g : Gauge) : (returnedGauge k g).key = g.key := by
  unfold returnedGauge
  split
  · next h => simp [Gauge.key, h.2]
  · rfl
theorem key_restartGauge (g : Gauge) : (restartGauge g).key = g.key := by
  unfold restartGauge
  split
  · rfl
  · next h => by_cases hj : g.state.judged = true ∨ g.state = .fault .link <;> simp [Gauge.key, hj, h]
theorem key_zeroMark (g : Gauge) : (zeroMark s g).key = g.key := by rw [zeroMark_eq]; rfl
theorem key_touch (n : BitVec 16) (g : Gauge) : (g.touch n).key = g.key := by unfold Gauge.touch; split <;> rfl

@[simp] theorem wardOf_loseScanner (k : Fin Config.scanners) : wardOf (loseScanner k s) = wardOf s := by
  have h : ∀ t, wardOf (moveGauges (lostGauge k) t) = wardOf t := fun t => wardOf_moveGauges (key_lostGauge k)
  unfold loseScanner; dsimp only; split <;> simp [h]
@[simp] theorem wardOf_takeScannerTimerExpiry (k : Fin Config.scanners) :
    wardOf (takeScannerTimerExpiry k s) = wardOf s := by
  unfold takeScannerTimerExpiry; split <;> simp
@[simp] theorem wardOf_takeLink (k : Fin Config.scanners) : wardOf (takeLink k s) = wardOf s := by
  have h : ∀ t, wardOf (moveGauges (returnedGauge k) t) = wardOf t := fun t => wardOf_moveGauges (key_returnedGauge k)
  unfold takeLink; dsimp only; split <;> simp [h]
@[simp] theorem wardOf_takeScanFrame (k : Fin Config.scanners) (u : List Byte) :
    wardOf (takeScanFrame k u s) = wardOf s := by
  unfold takeScanFrame; split <;> simp
@[simp] theorem wardOf_beginZero (l : List (Fin Config.gauges)) : wardOf (beginZero l s) = wardOf s := by
  have h : wardOf (l.foldl (fun t i => setGauge i (zeroMark s (gauge i t)) t) s) = wardOf s :=
    wardOf_foldl _ (fun t i => wardOf_setGauge (key_zeroMark _)) l s
  have hz : ∀ (t : State) (z : Option ZeroOp), wardOf (onGsc (fun u => { u with zeroOp := z }) t) = wardOf t :=
    fun _ _ => rfl
  unfold beginZero; dsimp only; split <;> simp [h, hz]
@[simp] theorem wardOf_takeZero (n : Nat) : wardOf (takeZero n s).1 = wardOf s := by
  unfold takeZero; (repeat' split) <;> simp
@[simp] theorem wardOf_takeShunt (i : Fin Config.gauges) : wardOf (takeShunt i s).1 = wardOf s := by
  have h := table_map_set Gauge.key s.gsc.gauges i (x := { gauge i s with shuntPending := true }) rfl
  unfold takeShunt
  dsimp only
  (repeat' split)
  case' isFalse.isFalse.isFalse =>
    simp only [started_fst, wardOf_transmit]
    simp only [wardOf, keysOf, tiesOf, rangeOf, onGsc, h]
  all_goals rfl
@[simp] theorem wardOf_takeSuspendGauge (i : Fin Config.gauges) : wardOf (takeSuspendGauge i s).1 = wardOf s := by
  unfold takeSuspendGauge
  dsimp only
  split
  · rfl
  · next hv =>
    rw [done_fst, wardOf_alertEvent]
    refine wardOf_applyEffect ?_
    simp [Gauge.key, Gauge.suspended, (not_or.1 hv).1]
/-- A record enters judgement or FAULT(LINK). -/
theorem entryState_ne_vacant (k : Fin Config.scanners) : entryState k s ≠ .vacant := by
  unfold entryState; split <;> simp
@[simp] theorem wardOf_takeWatchGauge (i : Fin Config.gauges) : wardOf (takeWatchGauge i s).1 = wardOf s := by
  unfold takeWatchGauge
  dsimp only
  split
  · next hs => exact wardOf_moveGauge (by simp [Gauge.key, hs, entryState_ne_vacant])
  · rfl
@[simp] theorem wardOf_takeGscClose (n : BitVec 16) : wardOf (takeGscClose n s) = wardOf s := rfl
@[simp] theorem wardOf_writeLinkTimeout (x : Int) : wardOf (writeLinkTimeout x s).1 = wardOf s := by
  unfold writeLinkTimeout; split <;> rfl
@[simp] theorem wardOf_sweepGauge (i : Fin Config.gauges) : wardOf (sweepGauge i s) = wardOf s := by
  unfold sweepGauge
  dsimp only
  split
  · rfl
  · rw [wardOf_sendAll]; exact wardOf_setGauge rfl
@[simp] theorem wardOf_restartGsc : wardOf (restartGsc s) = wardOf s := by
  simp only [restartGsc, wardOf_alertEvent, wardOf_moveGauges key_restartGauge, wardOf_sendAll]
  rfl
@[simp] theorem wardOf_touchCell (t : WTable) (r f : Nat) : wardOf (touchCell t r f s) = wardOf s := by
  unfold touchCell
  split
  · cases h : Table.index? Config.gauges r with
    | none => simp [onGsc, Table.setD, h]
    | some i =>
      have hk := table_map_set Gauge.key s.gsc.gauges i (key_touch s.gsc.interval _)
      simp only [onGsc, Table.setD, Table.getD, h, wardOf, keysOf, tiesOf, rangeOf, hk]
  · rfl

/-! ### CWU -/

theorem wardOf_setCrack {i : Fin Config.cracks} {r : Crack} (h : r.tie = (crack i s).tie) :
    wardOf (setCrack i r s) = wardOf s := by
  simp only [wardOf, keysOf, tiesOf, rangeOf, setCrack_cwu, table_map_set _ _ _ h]
  rfl
theorem wardOf_setLoop {l : Fin Config.loops} {r : Loop} (h : r.tie = (loop l s).tie) :
    wardOf (setLoop l r s) = wardOf s := by
  simp only [wardOf, keysOf, tiesOf, rangeOf, setLoop_cwu, table_map_set _ _ _ h]
  rfl
@[simp] theorem wardOf_onCwu {f : Cwu → Cwu}
    (h : ∀ w, ((f w).hits, (f w).loops, (f w).cracks) = (w.hits, w.loops, w.cracks)) : wardOf (onCwu f s) = wardOf s := by
  have h := h s.cwu
  simp only [Prod.mk.injEq] at h
  simp [wardOf, keysOf, tiesOf, rangeOf, onCwu, h]
@[simp] theorem wardOf_setSensor (c : Fin Config.sensors) (r : Sensor) : wardOf (setSensor c r s) = wardOf s := rfl
@[simp] theorem wardOf_clearTallies : wardOf (clearTallies s) = wardOf s := rfl
@[simp] theorem wardOf_tallyHit (z x : Nat) : wardOf (tallyHit z x s) = wardOf s := rfl
@[simp] theorem CrackEvent_raise_state (c : EventClass) (e : CrackEvent) : (e.raise c).state = e.state := rfl
@[simp] theorem CrackEvent_touch_state (i : Fin Config.cracks) (z : Nat) (e : CrackEvent) :
    (e.touch i z).state = e.state := by
  unfold CrackEvent.touch; split <;> rfl
@[simp] theorem wardOf_CrackEvent_finish (e : CrackEvent) : wardOf e.finish = wardOf e.state := rfl
@[simp] theorem wardOf_writeCrack (i : Fin Config.cracks) (f : Nat) (x : Int) : wardOf (writeCrack i f x s).1 = wardOf s := by
  have hd : ∀ v, wardOf (setCrack i { crack i s with derate := v } s) = wardOf s := fun v => wardOf_setCrack rfl
  have hn : ∀ v, wardOf (setCrack i { crack i s with note := v } s) = wardOf s := fun v => wardOf_setCrack rfl
  unfold writeCrack; dsimp only; (repeat' split) <;> simp [hd, hn]
@[simp] theorem wardOf_storeGrowthLimit (v : Nat) : wardOf (storeGrowthLimit v s) = wardOf s := by
  have h := table_map_map Crack.tie (g := fun r => { r with growthHalt := false }) s.cwu.cracks fun _ => rfl
  simp only [storeGrowthLimit, wardOf, keysOf, tiesOf, rangeOf, onCwu, h]
@[simp] theorem wardOf_writeCrackSetting (f : Nat) (x : Int) : wardOf (writeCrackSetting f x s).1 = wardOf s := by
  unfold writeCrackSetting
  dsimp only
  (repeat' split) <;> simp
@[simp] theorem wardOf_sweepCrack (i : Fin Config.cracks) : wardOf (sweepCrack i s) = wardOf s := by
  unfold sweepCrack
  dsimp only
  split
  · rfl
  · exact (wardOf_send _).trans (wardOf_setCrack rfl)
@[simp] theorem wardOf_writeLoop (l : Fin Config.loops) (f : Nat) (x : Int) : wardOf (writeLoop l f x s).1 = wardOf s := by
  have hs : ∀ v z, wardOf (setLoop l { loop l s with station := v, zone := z } s) = wardOf s :=
    fun v z => wardOf_setLoop rfl
  have ht : ∀ v, wardOf (setLoop l { loop l s with confirmTime := v } s) = wardOf s := fun v => wardOf_setLoop rfl
  unfold writeLoop; dsimp only; (repeat' split) <;> simp [hs, ht]
@[simp] theorem wardOf_writeAcousticSetting (f : Nat) (x : Int) : wardOf (writeAcousticSetting f x s).1 = wardOf s := by
  unfold writeAcousticSetting; dsimp only; (repeat' split) <;> rfl
@[simp] theorem wardOf_sweepLoop (l : Fin Config.loops) : wardOf (sweepLoop l s) = wardOf s := wardOf_setLoop rfl
@[simp] theorem wardOf_sweepSensor (c : Fin Config.sensors) : wardOf (sweepSensor c s) = wardOf s := rfl
@[simp] theorem wardOf_sweepCwu (n : Nat) : wardOf (sweepCwu n s) = wardOf s := by
  unfold sweepCwu; (repeat' split) <;> simp

/-! ### The sweeps and the port -/

@[simp] theorem wardOf_setSweep (o : Owner) (w : Sweep) : wardOf (setSweep o w s) = wardOf s := by cases o <;> rfl
@[simp] theorem wardOf_takeRezoneSweep (o : Owner) : wardOf (takeRezoneSweep o s) = wardOf s := by cases o <;> rfl
@[simp] theorem wardOf_sweepOne (o : Owner) (n : Nat) : wardOf (sweepOne o n s) = wardOf s := by
  unfold sweepOne; (repeat' split) <;> simp
@[simp] theorem wardOf_takeSweepRecord (o : Owner) : wardOf (takeSweepRecord o s) = wardOf s := by
  unfold takeSweepRecord; (repeat' split) <;> simp
@[simp] theorem wardOf_onSp (f : Sp → Sp) : wardOf (onSp f s) = wardOf s := rfl
@[simp] theorem wardOf_postAnswer (code : Byte) (r : Reply) : wardOf (postAnswer code r s) = wardOf s := rfl
@[simp] theorem wardOf_postTaken (code : Byte) (x : Taken) : wardOf (postTaken code x) = wardOf x.1 := by
  unfold postTaken; split <;> rfl
@[simp] theorem wardOf_readCells (t : WTable) (cs : List (Nat × Nat)) : wardOf (readCells t cs s).1 = wardOf s := by
  induction cs generalizing s with
  | nil => rfl
  | cons c cs ih => simp [readCells, ih]
@[simp] theorem wardOf_search (q : Lookup) (rs : List Nat) : wardOf (q.search rs s).1 = wardOf s := by
  induction rs generalizing s with
  | nil => rfl
  | cons r rs ih =>
    unfold Lookup.search; dsimp only; (repeat' split) <;> simp [ih]
@[simp] theorem wardOf_takeFind (ps : List Byte) : wardOf (takeFind ps s).1 = wardOf s := by
  unfold takeFind; (repeat' split) <;> simp
@[simp] theorem wardOf_takeSpReport (m : Instr) : wardOf (takeSpReport m s) = wardOf s := by
  unfold takeSpReport; split <;> rfl

end Sys2Proof.Machine
end

section
/-! The invariants kept: each of them from one state to another, what one change may do to it, and every command. -/
namespace Sys2Proof.Machine

variable {s t u : State}

/-! ### The invariants on what they speak of -/

/-- The channel map's record for a key, among keys and map (R84). -/
def keyAt (p : Table (Bool × Fin Config.scanners × Fin Config.channels) Config.gauges ×
    Table (Option (Fin Config.gauges)) 512) (k : Fin Config.scanners) (ch : Nat) : Option (Fin Config.gauges) :=
  if ch < 128 then p.2.getD (mapKey k ch) none else none

/-- `KeysTrue` of keys and map. -/
def KeysHold (p : Table (Bool × Fin Config.scanners × Fin Config.channels) Config.gauges ×
    Table (Option (Fin Config.gauges)) 512) : Prop :=
  (∀ i, (p.1.get i).1 = false → keyAt p (p.1.get i).2.1 (p.1.get i).2.2.val = some i) ∧
    ∀ k ch i, keyAt p k ch = some i → (p.1.get i).1 = false ∧ (p.1.get i).2.1 = k ∧ (p.1.get i).2.2.val = ch

/-- The keys of a state. -/
theorem keysTrue_iff : KeysTrue s ↔ KeysHold (keysOf s) := by
  have hk : ∀ i, (keysOf s).1.get i = (gauge i s).key := fun i => Table.get_map _ _ i
  have hm : ∀ k ch, keyAt (keysOf s) k ch = gaugeAt k ch s := fun _ _ => rfl
  simp [KeysTrue, KeysHold, hk, hm, Gauge.key]

/-- `BindingsTrue` of the ties of loops and cracks. -/
def TiesHold (p : Table (LoopState × Option (Fin Config.cracks) × Bool) Config.loops ×
    Table (CrackState × List (Fin Config.loops)) Config.cracks) : Prop :=
  (∀ l i, l ∈ (p.2.get i).2 ↔ (p.1.get l).2.1 = some i) ∧
  (∀ l i, (p.1.get l).2.1 = some i → (p.1.get l).1 = .broken) ∧
  (∀ i, (p.2.get i).2.Nodup ∧ (p.2.get i).2.length ≤ 8 ∧
    ((p.2.get i).1 = .vacant ∨ (p.2.get i).1 = .suspect → (p.2.get i).2 = [])) ∧
  ∀ l, (p.1.get l).2.2 = true → (p.1.get l).1 = .opening

/-- The ties of a state. -/
theorem bindingsTrue_iff : BindingsTrue s ↔ TiesHold (tiesOf s) := by
  have hl : ∀ l, (tiesOf s).1.get l = (loop l s).tie := fun l => Table.get_map _ _ l
  have hc : ∀ i, (tiesOf s).2.get i = (crack i s).tie := fun i => Table.get_map _ _ i
  simp only [BindingsTrue, TiesHold, hl, hc, Loop.tie, Crack.tie, Option.isSome_iff_ne_none]

/-! ### Kept from one state to another -/

/-- Every invariant but the attention line's that holds at `s` holds at `t`. -/
structure InvKept (s t : State) : Prop where
  derates : DeratesTrue s → DeratesTrue t
  bounds : BoundariesTrue s → BoundariesTrue t
  keys : KeysTrue s → KeysTrue t
  hits : HitsTrue s → HitsTrue t
  bindings : BindingsTrue s → BindingsTrue t
  range : SequencerInRange s → SequencerInRange t

theorem InvKept.refl (s : State) : InvKept s s := ⟨id, id, id, id, id, id⟩

theorem InvKept.trans (h : InvKept s t) (k : InvKept t u) : InvKept s u :=
  ⟨k.derates ∘ h.derates, k.bounds ∘ h.bounds, k.keys ∘ h.keys, k.hits ∘ h.hits, k.bindings ∘ h.bindings,
    k.range ∘ h.range⟩

theorem deratesTrue_congr (h : t.zdu = s.zdu) : DeratesTrue s → DeratesTrue t := by
  simp only [DeratesTrue, zoneEntry, zoneCount, h]; exact id
theorem boundariesTrue_congr (h : t.zdu.boundaries = s.zdu.boundaries) : BoundariesTrue s → BoundariesTrue t := by
  simp only [BoundariesTrue, h]; exact id
theorem hitsTrue_congr (h : t.cwu.hits = s.cwu.hits) : HitsTrue s → HitsTrue t := by
  simp only [HitsTrue, h]; exact id
theorem keysTrue_congr (h : keysOf t = keysOf s) : KeysTrue s → KeysTrue t := by
  simp only [keysTrue_iff, h]; exact id
theorem bindingsTrue_congr (h : tiesOf t = tiesOf s) : BindingsTrue s → BindingsTrue t := by
  simp only [bindingsTrue_iff, h]; exact id
theorem sequencerInRange_congr (h : rangeOf t = rangeOf s) : SequencerInRange s → SequencerInRange t := by
  obtain ⟨h1, h2⟩ := Prod.mk.inj h
  simp only [SequencerInRange, h1, h2]; exact id

/-- A change that leaves everything the invariants speak of keeps them. -/
theorem InvKept.of_ward (h : wardOf t = wardOf s) : InvKept s t := by
  obtain ⟨hz, hk, hh, ht, hr⟩ : t.zdu = s.zdu ∧ keysOf t = keysOf s ∧ t.cwu.hits = s.cwu.hits ∧ tiesOf t = tiesOf s ∧
      rangeOf t = rangeOf s := by simpa [wardOf] using h
  exact ⟨deratesTrue_congr hz, boundariesTrue_congr (by rw [hz]), keysTrue_congr hk, hitsTrue_congr hh,
    bindingsTrue_congr ht, sequencerInRange_congr hr⟩

/-- A change after one that keeps them. -/
theorem InvKept.then_ward (h : InvKept s t) (k : wardOf u = wardOf t) : InvKept s u := h.trans (.of_ward k)

/-- A change before one that keeps them. -/
theorem InvKept.after_ward (k : wardOf t = wardOf s) (h : InvKept t u) : InvKept s u := (InvKept.of_ward k).trans h

/-- A fold of operations that each keep them keeps them. -/
theorem InvKept.foldl {α : Type} (f : State → α → State) (h : ∀ t x, InvKept t (f t x)) (xs : List α) (s : State) :
    InvKept s (xs.foldl f s) := by
  induction xs generalizing s with
  | nil => exact .refl s
  | cons x xs ih => exact (h s x).trans (ih _)

end Sys2Proof.Machine
end

section
/-! The derates and the boundaries through the ZDU's events (R1, R8, R9, R16). -/
namespace Sys2Proof.Machine

variable {s t : State}

/-- `DeratesTrue` but for the zones of a list. -/
def DeratesTrueBut (zs : List Nat) (s : State) : Prop :=
  s.zdu.rezone = none → ∀ z, z < zoneCount s → z ∉ zs → (zoneEntry z s).effective = (zoneEntry z s).leastDerate

/-- True of every zone: true but for none. -/
theorem deratesTrueBut_nil : DeratesTrueBut [] s ↔ DeratesTrue s := by
  simp [DeratesTrueBut, DeratesTrue, ZoneEntry.leastDerate]

/-- An update settles the zones of its list. -/
theorem DeratesTrueBut.updateEffective {zs : List Nat} (h : DeratesTrueBut zs s) : DeratesTrue (updateEffective zs s) := by
  by_cases hr : s.zdu.rezone = none
  · have hcount : zoneCount (Machine.updateEffective zs s) = zoneCount s := by rw [updateEffective_eq zs hr]; rfl
    refine deratesTrueBut_nil.1 fun _ z hz _ => ?_
    rw [zoneEntry_updateEffective zs hr]
    split
    · rfl
    · next hn => exact h hr z (hcount ▸ hz) hn
  · rw [updateEffective_open zs (Option.isSome_iff_ne_none.2 hr)]
    exact deratesTrueBut_nil.1 fun hn => absurd hn hr

/-- Entries of a list written. -/
theorem DeratesTrue.setZones {zs : List Nat} (h : DeratesTrue s) (hz : ∀ z, z ∉ zs → zoneEntry z t = zoneEntry z s)
    (hr : t.zdu.rezone = s.zdu.rezone) (hb : t.zdu.boundaries = s.zdu.boundaries) : DeratesTrueBut zs t := by
  intro hn z hlt hout
  rw [hz z hout]
  exact h (hr ▸ hn) z (by simpa [zoneCount, hb] using hlt)

/-- One entry written. -/
theorem DeratesTrue.setZone (h : DeratesTrue s) (z : Nat) (e : ZoneEntry) : DeratesTrueBut [z] (setZone z e s) :=
  h.setZones (fun y hy => by rw [zoneEntry_setZone, if_neg (fun k => hy (by simp [k.1]))]) rfl rfl

/-- Entries changed so that the true ones stay true. -/
theorem DeratesTrue.of_entries (h : DeratesTrue s)
    (he : ∀ z, (zoneEntry z s).effective = (zoneEntry z s).leastDerate →
      (zoneEntry z t).effective = (zoneEntry z t).leastDerate)
    (hr : t.zdu.rezone = none → s.zdu.rezone = none) (hb : t.zdu.boundaries = s.zdu.boundaries) : DeratesTrue t := by
  intro hn z hlt
  exact he z (h (hr hn) z (by simpa [zoneCount, hb] using hlt))

/-- The boundaries an update leaves. -/
theorem updateEffective_boundaries (zs : List Nat) (s : State) :
    (updateEffective zs s).zdu.boundaries = s.zdu.boundaries := by
  by_cases hr : s.zdu.rezone = none
  · rw [updateEffective_eq zs hr]
  · rw [updateEffective_open zs (Option.isSome_iff_ne_none.2 hr)]

/-- An event of the ZDU keeps what it keeps of the derates and the boundaries: the rest it leaves. -/
theorem InvKept.of_zdu (h : ZduEvent s t) (hd : DeratesTrue s → DeratesTrue t)
    (hb : t.zdu.boundaries = s.zdu.boundaries) : InvKept s t := by
  obtain ⟨ms, -, he⟩ := h
  refine ⟨hd, boundariesTrue_congr hb, keysTrue_congr ?_, hitsTrue_congr ?_, bindingsTrue_congr ?_,
    sequencerInRange_congr ?_⟩ <;> rw [he] <;> rfl

/-- The comparison with the trip count. -/
theorem InvKept.compareTrip (s : State) : InvKept s (compareTrip s) := by
  have event := ZduEvent.compareTrip s
  have zdu : (Machine.compareTrip s).zdu.zones = s.zdu.zones ∧ (Machine.compareTrip s).zdu.rezone = s.zdu.rezone ∧
      (Machine.compareTrip s).zdu.boundaries = s.zdu.boundaries := by
    unfold Machine.compareTrip
    (repeat' split) <;> exact ⟨rfl, rfl, rfl⟩
  obtain ⟨hz, hr, hb⟩ := zdu
  refine .of_zdu event (fun h => h.of_entries (fun z => ?_) (by rw [hr]; exact id) hb) hb
  simp only [zoneEntry, hz]
  exact id

/-- The evaluation of the conditions. -/
theorem InvKept.evalConditions (s : State) : InvKept s (evalConditions s) := by
  by_cases hr : s.zdu.rezone = none
  · refine .of_zdu (.evalConditions s) (fun h => h.of_entries (fun z => ?_) (fun _ => hr) ?_) ?_ <;>
      rw [evalConditions_eq hr]
    exact id
  · rw [evalConditions_open (Option.isSome_iff_ne_none.2 hr)]
    exact .refl s

/-- One entry written, and updated. -/
theorem InvKept.writeZone (z : Nat) (e : ZoneEntry) (s : State) : InvKept s (updateEffective [z] (setZone z e s)) :=
  .of_zdu ((ZduEvent.setZone z e s).trans (.updateEffective _ _)) (fun h => (h.setZone z e).updateEffective)
    (updateEffective_boundaries _ _)

/-- An over claim counted or taken back. -/
theorem InvKept.overClaim (z : Nat) (e : ZoneEntry) (s : State) : InvKept s (afterOverClaim z (setZone z e s)) :=
  (InvKept.writeZone z e s).trans ((InvKept.compareTrip _).trans (.evalConditions _))

/-- A fault claim counted or taken back: an entry that is true with what it holds stays so. -/
theorem InvKept.faultClaim {z : Nat} {e : ZoneEntry} {s : State}
    (he : (zoneEntry z s).effective = (zoneEntry z s).leastDerate → e.effective = e.leastDerate) :
    InvKept s (Machine.evalConditions (Machine.setZone z e s)) := by
  refine .trans (.of_zdu (.setZone z e s) (fun h => h.of_entries (fun y hy => ?_) id rfl) rfl) (.evalConditions _)
  rw [zoneEntry_setZone]
  split
  · next hc => exact he (hc.1 ▸ hy)
  · exact hy

/-- A claim for a zone in use or not. -/
theorem InvKept.zoneClaim {z : Nat} {f : State → State} (h : InvKept s (f s)) : InvKept s (zoneClaim z f s) := by
  unfold Machine.zoneClaim
  split
  · exact h
  · exact .refl s

theorem InvKept.takeOverEnter (z : Nat) (s : State) : InvKept s (takeOverEnter z s) := by
  refine .zoneClaim ?_
  dsimp only
  split
  · exact .overClaim z _ s
  · exact .refl s
theorem InvKept.takeOverLeave (z : Nat) (s : State) : InvKept s (takeOverLeave z s) := by
  refine .zoneClaim ?_
  dsimp only
  split
  · exact .overClaim z _ s
  · exact .refl s
theorem InvKept.takeFaultEnter (z : Nat) (s : State) : InvKept s (takeFaultEnter z s) := by
  refine .zoneClaim ?_
  dsimp only
  split
  · exact .faultClaim fun h => h
  · exact .refl s
theorem InvKept.takeFaultLeave (z : Nat) (s : State) : InvKept s (takeFaultLeave z s) := by
  refine .zoneClaim ?_
  dsimp only
  split
  · exact .faultClaim fun h => h
  · exact .refl s
theorem InvKept.takeCrackDerate (z v n : Nat) (s : State) : InvKept s (takeCrackDerate z v n s) :=
  .zoneClaim (.writeZone z _ s)

/-- A claim of either owner. -/
theorem InvKept.takeClaim (m : Instr) (s : State) : InvKept s (takeClaim m s) := by
  unfold Machine.takeClaim
  split
  · exact .takeOverEnter _ s
  · exact .takeOverLeave _ s
  · exact .takeFaultEnter _ s
  · exact .takeFaultLeave _ s
  · exact .takeCrackDerate _ _ _ s
  · exact .refl s

/-- The claims taken before a REZONE. -/
theorem InvKept.takeClaims (s : State) : InvKept s (takeClaims s) :=
  takeSent_keeps (P := InvKept s) (fun m _ _ h => (h.then_ward (wardOf_arrive m)).trans (.takeClaim m _)) (.refl s)

/-- A load mask: the load flags alone. -/
theorem InvKept.takeLoadMask (set : BitVec 32) (s : State) : InvKept s (takeLoadMask set s) := by
  have whole := takeLoadMask_eq set s
  have event : ZduEvent s (Machine.takeLoadMask set s) := ⟨[], by simp, by rw [whole]; simp only [List.append_nil]⟩
  refine .of_zdu event (fun h => h.of_entries (fun z hz => ?_) ?_ ?_) (by rw [whole])
  · by_cases hlt : z < 32
    · rw [zoneEntry_takeLoadMask set s hlt]
      exact hz
    · rw [zoneEntry_ge (Nat.not_lt.1 hlt)]
      rfl
  · rw [whole]; exact id
  · rw [whole]

/-! ### Host writes (R4, R5, R11) -/

theorem InvKept.writeTripCount (v : Nat) (s : State) : InvKept s (writeTripCount v s) :=
  .trans (.of_zdu (.onZdu _ s) (fun h => h.of_entries (fun _ => id) id rfl) rfl) (.compareTrip _)

/-- SET ZONE DERATE over every zone in use. -/
theorem InvKept.writeManualAll (v : Nat) (s : State) : InvKept s (writeManualAll v s) := by
  have whole := foldl_setZone_eq (fun _ e => { e with manual := v }) (zonesInUse s) s
  refine .of_zdu ((ZduEvent.foldl _ (fun t z => .setZone z _ t) _ s).trans (.updateEffective _ _)) (fun h => ?_) ?_
  · refine (h.setZones (fun z hz => ?_) ?_ ?_).updateEffective
    · by_cases hlt : z < 32
      · rw [zoneEntry_foldl_setZone (fun _ e => { e with manual := v }) (fun _ _ => rfl) _ _ hlt, if_neg hz]
      · rw [zoneEntry_ge (Nat.not_lt.1 hlt), zoneEntry_ge (Nat.not_lt.1 hlt)]
    · rw [whole]
    · rw [whole]
  · exact (updateEffective_boundaries _ _).trans (by rw [whole])

theorem InvKept.takeSetZoneDerate (ps : List Byte) (s : State) : InvKept s (takeSetZoneDerate ps s).1 := by
  unfold Machine.takeSetZoneDerate
  dsimp only
  (repeat' split)
  · exact .refl s
  · exact .writeManualAll _ s
  · exact .writeZone _ _ s
  · exact .refl s

/-! ### REZONE (R13 to R16) -/

/-- A REZONE opened: its boundaries are lawful, and no derate is bound while it is open. -/
theorem InvKept.openRezone {bs : List Nat} (hl : bs.length ≤ 31) (hok : boundariesOk bs = true) (s : State) :
    InvKept s (openRezone bs s) := by
  have rest : keysOf (Machine.openRezone bs s) = keysOf s ∧ tiesOf (Machine.openRezone bs s) = tiesOf s := ⟨rfl, rfl⟩
  obtain ⟨hk, ht⟩ := rest
  refine ⟨fun _ hn => (nomatch hn), fun _ => ?_, keysTrue_congr hk, fun h => h, bindingsTrue_congr ht, fun h => h⟩
  obtain ⟨hr, hp⟩ := (boundariesOk_iff bs).1 hok
  exact ⟨hl, hr, hp⟩

theorem InvKept.takeRezone (ps : List Byte) (s : State) : InvKept s (takeRezone ps s).1 := by
  cases ps with
  | nil => exact .refl s
  | cons n rest =>
    unfold Machine.takeRezone
    dsimp only
    split
    · exact .refl s
    split
    · exact .refl s
    split
    · exact .refl s
    next hl hn =>
    obtain ⟨hn32, hok⟩ := not_or.1 hn
    split
    · exact .refl s
    split
    · exact .refl s
    · refine (InvKept.takeClaims s).trans (.openRezone ?_ (by simpa using hok) _)
      have h32 : n.toNat ≤ 32 := Nat.not_lt.1 hn32
      rw [length_stationsOf]
      omega

/-- A count of swept records, or a mark of an owner done. -/
theorem InvKept.onRezone (f : Rezone → Rezone) (s : State) :
    InvKept s (onZdu (fun u => { u with rezone := u.rezone.map f }) s) :=
  .of_zdu (.onZdu _ s) (fun h => h.of_entries (fun _ => id) (fun hn => Option.map_eq_none_iff.1 hn) rfl) rfl

/-- The completion settles every zone in use. -/
theorem InvKept.completeRezone (s : State) : InvKept s (completeRezone s) := by
  have settled := InvKept.of_zdu ((ZduEvent.onZdu (fun u => { u with rezone := none }) s).trans (.updateEffective (zonesInUse s) _))
    (fun _ => DeratesTrueBut.updateEffective fun _ z hz hn => absurd (List.mem_range.2 hz) hn)
    (updateEffective_boundaries _ _)
  exact (settled.trans ((InvKept.compareTrip _).trans (.evalConditions _))).then_ward rfl

theorem InvKept.takeSweepDone (o : Owner) (s : State) : InvKept s (takeSweepDone o s) := by
  unfold Machine.takeSweepDone
  split
  · exact .refl s
  · next r hr =>
    have marked : InvKept s (Machine.onZdu (fun u => { u with rezone := some (r.mark o) }) s) :=
      .of_zdu (.onZdu _ s) (fun h => h.of_entries (fun _ => id) (fun hn => nomatch hn) rfl) rfl
    dsimp only
    split
    · exact marked.trans (.completeRezone _)
    · exact marked

end Sys2Proof.Machine
end

section
/-! The pass count and the scale through the sequencer's events (R56, R65, R67). -/
namespace Sys2Proof.Machine

variable {s t : State}

/-- A change of LSQ keeps the invariants where it keeps the ranges. -/
theorem InvKept.onLsq {f : Lsq → Lsq}
    (h : SequencerInRange s → (f s.lsq).scale ≤ 100 ∧ (f s.lsq).passCount ≤ 4294967295) : InvKept s (onLsq f s) :=
  ⟨fun h => h, fun h => h, fun h => h, fun h => h, fun h => h, h⟩

theorem InvKept.countPass (s : State) : InvKept s (countPass s) :=
  (InvKept.onLsq fun h => ⟨h.1, Nat.min_le_left _ _⟩).then_ward (wardOf_raise _)

theorem InvKept.passBoundary (running : Bool) (s : State) : InvKept s (passBoundary running s) := by
  refine (InvKept.countPass s).then_ward ?_
  unfold Machine.passBoundary
  dsimp only
  (repeat' split) <;> simp

theorem InvKept.completeStep (running : Bool) (s : State) : InvKept s (completeStep running s) := by
  unfold Machine.completeStep
  dsimp only
  (repeat' split)
  · exact .of_ward (by simp)
  · exact .of_ward (by simp)
  · exact .passBoundary _ s

theorem InvKept.takeDwellExpiry (s : State) : InvKept s (takeDwellExpiry s) := by
  have stopped : wardOf (Machine.onLsq (fun q => { q with dwellTimer := none }) s) = wardOf s := by simp
  unfold Machine.takeDwellExpiry
  dsimp only
  (repeat' split)
  · exact .refl s
  · exact .after_ward stopped (.completeStep _ _)
  · exact .after_ward stopped (.completeStep _ _)
  · exact .of_ward stopped

theorem InvKept.changeScale {v : Nat} (hv : SequencerInRange s → v ≤ 100) : InvKept s (changeScale v s) := by
  have stored : InvKept s (Machine.onLsq (fun q => { q with scale := v }) s) := .onLsq fun h => ⟨hv h, h.2⟩
  unfold Machine.changeScale
  dsimp only
  split
  · exact stored.then_ward (wardOf_obeyFall _)
  · exact stored

theorem InvKept.takeSetScale (v : Nat) (s : State) : InvKept s (takeSetScale v s).1 := by
  unfold Machine.takeSetScale
  split
  · exact .refl s
  · next h => exact .changeScale fun _ => Nat.not_lt.1 h

theorem InvKept.takeTrimUp (s : State) : InvKept s (takeTrimUp s).1 := by
  refine .changeScale fun h => ?_
  split
  · omega
  · exact h.1

theorem InvKept.takeTrimDown (s : State) : InvKept s (takeTrimDown s).1 :=
  .changeScale fun h => (Nat.sub_le _ _).trans h.1

theorem InvKept.takeClearPasses (s : State) : InvKept s (takeClearPasses s).1 := by
  unfold Machine.takeClearPasses
  split
  · exact .onLsq (f := fun q => { q with passCount := 0 }) fun h => ⟨h.1, Nat.zero_le _⟩
  · exact .refl s

end Sys2Proof.Machine
end

section
/-! The channel map through the Gauge Scanner's events (R84, R87, R88, R91, R95). -/
namespace Sys2Proof.Machine

variable {s t : State} {p : Table (Bool × Fin Config.scanners × Fin Config.channels) Config.gauges ×
  Table (Option (Fin Config.gauges)) 512} {i : Fin Config.gauges} {k k' : Fin Config.scanners} {ch ch' : Nat}

/-! ### Keys and map -/

/-- The key's entry of the map written. -/
def putKey (k : Fin Config.scanners) (ch : Nat) (x : Option (Fin Config.gauges))
    (p : Table (Bool × Fin Config.scanners × Fin Config.channels) Config.gauges × Table (Option (Fin Config.gauges)) 512) :
    Table (Bool × Fin Config.scanners × Fin Config.channels) Config.gauges × Table (Option (Fin Config.gauges)) 512 :=
  (p.1, p.2.setD (mapKey k ch) x)

/-- A key's entry number lies in the map, and no two keys have one. -/
theorem keyAt_putKey {x : Option (Fin Config.gauges)} (h : ch < 128) :
    keyAt (putKey k ch x p) k' ch' = if k' = k ∧ ch' = ch then x else keyAt p k' ch' := by
  have hk : k.val < 4 := k.isLt
  have hk' : k'.val < 4 := k'.isLt
  have hm : mapKey k ch < 512 := by show k.val * 128 + ch < 512; omega
  have heq : ch' < 128 → (mapKey k' ch' = mapKey k ch ↔ k' = k ∧ ch' = ch) := fun h' => by
    show k'.val * 128 + ch' = k.val * 128 + ch ↔ _
    rw [Fin.ext_iff]
    omega
  unfold keyAt
  by_cases h' : ch' < 128
  · rw [if_pos h', if_pos h', putKey, Table.getD_setD]
    simp only [heq h', hm, and_true]
  · rw [if_neg h', if_neg h', if_neg fun e : k' = k ∧ ch' = ch => h' (e.2 ▸ h)]

/-- A record leaves the map with its key. -/
theorem KeysHold.left (h : KeysHold p) (i : Fin Config.gauges) (hv : (p.1.get i).1 = false)
    (x : Fin Config.scanners × Fin Config.channels) :
    KeysHold (putKey (p.1.get i).2.1 (p.1.get i).2.2.val none (p.1.set i (true, x), p.2)) := by
  obtain ⟨hopen, hmap⟩ := h
  have hc : (p.1.get i).2.2.val < 128 := (p.1.get i).2.2.isLt
  refine ⟨fun j hj => ?_, fun k ch j hj => ?_⟩
  · rw [keyAt_putKey hc]
    by_cases hji : j = i
    · subst hji
      simp [putKey] at hj
    · simp only [putKey, Table.get_set_other _ _ hji] at hj ⊢
      split
      · next e =>
        have hown := hopen j hj
        rw [e.1, e.2, hopen i hv] at hown
        exact absurd (Option.some.inj hown).symm hji
      · exact hopen j hj
  · rw [keyAt_putKey hc] at hj
    split at hj
    · cases hj
    · next e =>
      have hown := hmap k ch j hj
      have hji : j ≠ i := by
        rintro rfl
        exact e ⟨hown.2.1.symm, hown.2.2.symm⟩
      simpa only [putKey, Table.get_set_other _ _ hji] using hown

/-- A record not in the map enters it with a key that is free. -/
theorem KeysHold.entered (h : KeysHold p) (i : Fin Config.gauges) (hv : (p.1.get i).1 = true)
    (ch : Fin Config.channels) (hfree : keyAt p k ch.val = none) :
    KeysHold (putKey k ch.val (some i) (p.1.set i (false, k, ch), p.2)) := by
  obtain ⟨hopen, hmap⟩ := h
  have hc : ch.val < 128 := ch.isLt
  refine ⟨fun j hj => ?_, fun k' ch' j hj => ?_⟩
  · rw [keyAt_putKey hc]
    by_cases hji : j = i
    · subst hji
      simp [putKey]
    · simp only [putKey, Table.get_set_other _ _ hji] at hj ⊢
      have hown := hopen j hj
      split
      · next e =>
        rw [e.1, e.2, hfree] at hown
        cases hown
      · exact hown
  · rw [keyAt_putKey hc] at hj
    split at hj
    · next e =>
      cases hj
      simp [putKey, e]
    · have hown := hmap k' ch' j hj
      have hji : j ≠ i := by
        rintro rfl
        exact absurd (hv.symm.trans hown.1) (by decide)
      simpa only [putKey, Table.get_set_other _ _ hji] using hown

/-! ### The events -/

/-- What the invariants speak of besides keys and map. -/
def offKeysOf (s : State) := (s.zdu, s.cwu.hits, tiesOf s, rangeOf s)

/-- A change of keys and map alone. -/
theorem InvKept.of_keys (ho : offKeysOf t = offKeysOf s) (hk : KeysHold (keysOf s) → KeysHold (keysOf t)) :
    InvKept s t := by
  obtain ⟨hz, hh, ht, hr⟩ : t.zdu = s.zdu ∧ t.cwu.hits = s.cwu.hits ∧ tiesOf t = tiesOf s ∧ rangeOf t = rangeOf s := by
    simpa [offKeysOf] using ho
  exact ⟨deratesTrue_congr hz, boundariesTrue_congr (by rw [hz]), fun h => keysTrue_iff.2 (hk (keysTrue_iff.1 h)),
    hitsTrue_congr hh, bindingsTrue_congr ht, sequencerInRange_congr hr⟩

/-- The key of a record, among the keys. -/
theorem keysOf_get : (keysOf s).1.get i = (gauge i s).key := Table.get_map _ _ i

/-- A record written, among keys and map. -/
theorem keysOf_setGauge (g : Gauge) : keysOf (setGauge i g s) = ((keysOf s).1.set i g.key, (keysOf s).2) := by
  refine Prod.ext (Table.ext_get fun j => ?_) rfl
  rw [keysOf_get, Table.get_set, keysOf_get]
  show Gauge.key ((s.gsc.gauges.set i g).get j) = _
  rw [Table.get_set]
  split <;> rfl

theorem keysOf_setMap (x : Option (Fin Config.gauges)) : keysOf (setMap k ch x s) = putKey k ch x (keysOf s) := rfl

@[simp] theorem offKeysOf_setGauge (g : Gauge) : offKeysOf (setGauge i g s) = offKeysOf s := rfl
@[simp] theorem offKeysOf_setMap (x : Option (Fin Config.gauges)) : offKeysOf (setMap k ch x s) = offKeysOf s := rfl

/-- What leaves everything leaves all but keys and map, and these. -/
theorem offKeysOf_of_ward (h : wardOf t = wardOf s) : offKeysOf t = offKeysOf s ∧ keysOf t = keysOf s := by
  simp only [wardOf, Prod.mk.injEq] at h
  simp [offKeysOf, h]

/-- A record's event, among keys and map: the record alone. -/
theorem applyEffect_keys (e : ReadingEffect) :
    offKeysOf (applyEffect i e s) = offKeysOf s ∧
      keysOf (applyEffect i e s) = ((keysOf s).1.set i e.gauge.key, (keysOf s).2) := by
  have moved : wardOf (applyEffect i e s) = wardOf (setGauge i e.gauge s) := by
    unfold applyEffect moveGauge
    dsimp only
    (repeat' split) <;> simp
  obtain ⟨ho, hk⟩ := offKeysOf_of_ward moved
  exact ⟨ho, hk.trans (keysOf_setGauge _)⟩

/-- A record's event that keeps its key, where the record is open. -/
theorem InvKept.applyEffect {e : ReadingEffect} (h : KeysTrue s → e.gauge.key = (gauge i s).key) :
    InvKept s (applyEffect i e s) := by
  obtain ⟨ho, hk⟩ := applyEffect_keys (i := i) (s := s) e
  refine .of_keys ho fun hs => ?_
  rw [hk, h (keysTrue_iff.2 hs), ← keysOf_get, Table.set_get]
  exact hs

theorem InvKept.alertEvent {f : State → State} (h : InvKept s (f s)) : InvKept s (alertEvent f s) :=
  h.then_ward ((wardOf_alertEvent f).trans rfl)

/-! ### Opening, retiring, new keys (R87, R88, R91) -/

theorem InvKept.takeOpenGauge (i : Fin Config.gauges) (k : Fin Config.scanners) (ch : Fin Config.channels) (x : Nat)
    (s : State) : InvKept s (takeOpenGauge i k ch x s).1 := by
  unfold Machine.takeOpenGauge
  split
  · exact .refl s
  split
  · exact .refl s
  next hv hfree =>
  have hkey : (openedGauge k ch x s).key = (false, k, ch) := by
    simp [Gauge.key, openedGauge, entryState_ne_vacant]
  obtain ⟨ho, hk⟩ := offKeysOf_of_ward (s := setGauge i (openedGauge k ch x s) s)
    (t := moveGauge i (openedGauge k ch x s) s) (wardOf_sendAll _)
  refine .of_keys ho fun hs => ?_
  rw [done_fst, keysOf_setMap, hk, keysOf_setGauge, hkey]
  have hnone : gaugeAt k ch.val s = none := by simpa using hfree
  refine hs.entered i ?_ ch hnone
  rw [keysOf_get]
  simpa [Gauge.key] using hv

theorem InvKept.parseOpenGauge (ps : List Byte) (s : State) : InvKept s (parseOpenGauge ps s).1 := by
  unfold Machine.parseOpenGauge
  (repeat' split)
  · exact .refl s
  · exact .takeOpenGauge _ _ _ _ s
  · exact .refl s
  · exact .refl s

theorem InvKept.takeRetireGauge (i : Fin Config.gauges) (s : State) : InvKept s (takeRetireGauge i s).1 := by
  unfold Machine.takeRetireGauge
  dsimp only
  split
  · exact .refl s
  next hv =>
  rw [done_fst]
  refine .alertEvent ?_
  obtain ⟨ho, hk⟩ := applyEffect_keys (i := i) (s := s) { gauge := {}, shuntEnd := abandoned (gauge i s) }
  refine .of_keys ho fun hs => ?_
  rw [keysOf_setMap, hk]
  have left := hs.left i (by rw [keysOf_get]; simpa [Gauge.key] using hv) (0, 0)
  rwa [keysOf_get] at left

theorem InvKept.writeKey {ch : Fin Config.channels} (hv : (gauge i s).state ≠ .vacant) :
    InvKept s (writeKey i k ch s).1 := by
  unfold Machine.writeKey
  dsimp only
  split
  · split
    · exact .refl s
    · exact .refl s
  next hfree =>
  have hkey : (keysOf s).1.get i = (false, (gauge i s).scanner, (gauge i s).channel) := by
    rw [keysOf_get]; simpa [Gauge.key] using hv
  refine .of_keys rfl fun hs => ?_
  have left := hs.left i (by rw [hkey]) (0, 0)
  have hc : (gauge i s).channel.val < 128 := (gauge i s).channel.isLt
  have entered := left.entered (k := k) i (by simp [putKey]) ch (by
    rw [hkey, keyAt_putKey hc]
    split
    · rfl
    · exact hfree)
  rw [hkey] at entered
  rw [keysOf_setMap, keysOf_setMap, keysOf_setGauge]
  have hstate : ((gauge i s).state == .vacant) = false := by simpa using hv
  simpa [putKey, Gauge.key, hstate] using entered

theorem InvKept.writeGauge (i : Fin Config.gauges) (f : Nat) (x : Int) (s : State) :
    InvKept s (writeGauge i f x s).1 := by
  unfold Machine.writeGauge
  split
  · exact .refl s
  next hv =>
  have stored : ∀ g : Gauge, g.key = (gauge i s).key → InvKept s (setGauge i g s) := fun g hg =>
    .of_ward (wardOf_setGauge hg)
  unfold writeOpenGauge
  dsimp only
  (repeat' split)
  · exact .refl s
  · exact .writeKey hv
  · exact .refl s
  · exact .refl s
  · exact .writeKey hv
  · exact .refl s
  · exact stored _ rfl
  · exact .refl s
  · exact stored _ rfl
  · exact .refl s
  · exact stored _ rfl
  · exact .refl s
  · exact stored _ rfl
  · exact .refl s
  · exact stored _ rfl
  · exact .refl s
  · exact stored _ rfl
  · exact .refl s
  · exact .refl s

/-! ### Readings (R95) -/

/-- The record stays where it was: open where it was open, under its key. -/
def Gauge.Stays (g h : Gauge) : Prop :=
  (g.state ≠ .vacant → h.state ≠ .vacant) ∧ h.scanner = g.scanner ∧ h.channel = g.channel

/-- An open record that stays has its key. -/
theorem Gauge.Stays.key {g h : Gauge} (hs : g.Stays h) (hv : g.state ≠ .vacant) : h.key = g.key := by
  obtain ⟨hopen, hk, hc⟩ := hs
  have hb : ∀ x : GaugeState, x ≠ .vacant → (x == .vacant) = false := fun x hx => by simpa using hx
  simp [Gauge.key, hk, hc, hb _ hv, hb _ (hopen hv)]

theorem Gauge.Stays.trans {g h j : Gauge} (a : g.Stays h) (b : h.Stays j) : g.Stays j := by
  obtain ⟨a1, a2, a3⟩ := a
  obtain ⟨b1, b2, b3⟩ := b
  exact ⟨b1 ∘ a1, b2.trans a2, b3.trans a3⟩

/-- The alert test leaves a record open. -/
theorem alertTest_ne_vacant (l : LimitSet) (st : GaugeState) (x : Int) : alertTest l st x ≠ .vacant := by
  unfold alertTest
  (repeat' split) <;> simp

theorem stays_judge (flag : Bool) (v : Int) (g : Gauge) : g.Stays (judge flag v g) := by
  unfold judge judgeOver judgeBelow Gauge.declareOver
  dsimp only
  (repeat' split) <;> simp [Gauge.Stays, alertTest_ne_vacant]

theorem stays_badReading (c : GaugeCause) (g : Gauge) : g.Stays (badReading c g) := by
  unfold badReading Gauge.enterFault
  split <;> simp [Gauge.Stays]

theorem stays_returned (g : Gauge) : g.Stays g.returned := by
  unfold Gauge.returned
  split <;> simp [Gauge.Stays]

theorem stays_goodReading (flag : Bool) (v : Int) (g : Gauge) : g.Stays (goodReading flag v g).gauge := by
  have returned : g.Stays (Gauge.returned { g with lastGood := some v }) := stays_returned { g with lastGood := some v }
  unfold goodReading
  dsimp only
  (repeat' split)
  · exact returned
  · exact returned.trans (stays_judge _ _ _)
  · exact returned

theorem stays_shuntFault (g : Gauge) : g.Stays g.shuntFault := by
  unfold Gauge.shuntFault Gauge.enterFault
  split <;> simp [Gauge.Stays]

theorem stays_qualityRule (flag : Bool) (q : Quality) (v : Int) (g : Gauge) :
    g.Stays (qualityRule flag q v g).gauge := by
  match q with
  | .open => exact stays_badReading _ g
  | .overrange => exact stays_badReading _ g
  | .shunted => exact ⟨id, rfl, rfl⟩
  | .good => exact stays_goodReading flag v g

theorem stays_shuntRule (flag : Bool) (n : Nat) (q : Quality) (v : Int) (g : Gauge) :
    g.Stays (shuntRule flag n q v g).gauge := by
  match q with
  | .open => exact stays_badReading _ g
  | .overrange => exact stays_badReading _ g
  | .shunted =>
    unfold shuntRule
    dsimp only
    split
    · split <;> simp [Gauge.Stays]
    · exact stays_shuntFault g
  | .good =>
    unfold shuntRule
    dsimp only
    split
    · exact (stays_goodReading flag v g).trans (stays_shuntFault _)
    · exact stays_goodReading flag v g

/-- A reading leaves an open record open, under its key. -/
theorem key_readingEffect {flag : Bool} {n : BitVec 16} {m : Nat} {q : Quality} {v : Int} {g : Gauge}
    (hv : g.state ≠ .vacant) : (readingEffect flag n m q v g).gauge.key = g.key := by
  have htouch : (g.touch n).state = g.state ∧ (g.touch n).scanner = g.scanner ∧ (g.touch n).channel = g.channel := by
    unfold Gauge.touch
    split <;> exact ⟨rfl, rfl, rfl⟩
  have stored : g.Stays { g.touch n with lastValue := v, lastQuality := some q } :=
    ⟨fun h => by simpa [htouch] using h, htouch.2.1, htouch.2.2⟩
  refine Gauge.Stays.key ?_ hv
  unfold readingEffect
  dsimp only
  (repeat' split)
  · exact stored
  · exact stored.trans (stays_shuntRule _ _ _ _ _)
  · exact stored.trans (stays_qualityRule _ _ _ _)

/-- A reading arrival: the map names open records only. -/
theorem InvKept.takeReading (k : Fin Config.scanners) (ch : Byte) (q : Quality) (v : BitVec 16) (s : State) :
    InvKept s (takeReading k ch q v s) := by
  unfold Machine.takeReading
  split
  · next i hi => exact .alertEvent (.applyEffect fun hs => key_readingEffect (hs.2 _ _ _ hi).1)
  · exact .refl s

end Sys2Proof.Machine
end

section
/-! Loops, cracks and pending hits through the Crack Watch's events (R132, R138, R147 to R163). -/
namespace Sys2Proof.Machine

variable {s t : State} {i : Fin Config.cracks} {l : Fin Config.loops}

/-! ### Records written -/

/-- What the invariants speak of besides loops and cracks. -/
def offTiesOf (s : State) := (s.zdu, keysOf s, s.cwu.hits, rangeOf s)

/-- A change of loops and cracks alone. -/
theorem InvKept.of_ties (ho : offTiesOf t = offTiesOf s) (hb : BindingsTrue s → BindingsTrue t) : InvKept s t := by
  obtain ⟨hz, hk, hh, hr⟩ : t.zdu = s.zdu ∧ keysOf t = keysOf s ∧ t.cwu.hits = s.cwu.hits ∧ rangeOf t = rangeOf s := by
    simpa [offTiesOf] using ho
  exact ⟨deratesTrue_congr hz, boundariesTrue_congr (by rw [hz]), keysTrue_congr hk, hitsTrue_congr hh, hb,
    sequencerInRange_congr hr⟩

/-- What leaves everything leaves all but loops and cracks. -/
theorem offTiesOf_of_ward (h : wardOf t = wardOf s) : offTiesOf t = offTiesOf s := by
  simp only [wardOf, Prod.mk.injEq] at h
  simp [offTiesOf, h]

theorem crack_setCrack (r : Crack) (j : Fin Config.cracks) : crack j (setCrack i r s) = if j = i then r else crack j s :=
  Table.get_set _ _ _ _
theorem loop_setLoop (r : Loop) (m : Fin Config.loops) : loop m (setLoop l r s) = if m = l then r else loop m s :=
  Table.get_set _ _ _ _
@[simp] theorem crack_setCrack_same (r : Crack) : crack i (setCrack i r s) = r := Table.get_set_same _ _ _
@[simp] theorem loop_setCrack (r : Crack) (m : Fin Config.loops) : loop m (setCrack i r s) = loop m s := rfl
@[simp] theorem crack_setLoop (r : Loop) (j : Fin Config.cracks) : crack j (setLoop l r s) = crack j s := rfl

/-- `BindingsTrue` but for what record `i` may list by its state. -/
def BindingsTrueBut (i : Fin Config.cracks) (s : State) : Prop :=
  (∀ l j, l ∈ (crack j s).loops ↔ (loop l s).bound = some j) ∧
  (∀ l j, (loop l s).bound = some j → (loop l s).state = .broken) ∧
  (∀ j, (crack j s).loops.Nodup ∧ (crack j s).loops.length ≤ 8 ∧
    (j ≠ i → (crack j s).state = .vacant ∨ (crack j s).state = .suspect → (crack j s).loops = [])) ∧
  ∀ l, (loop l s).timer ≠ none → (loop l s).state = .opening

theorem BindingsTrue.but (h : BindingsTrue s) (i : Fin Config.cracks) : BindingsTrueBut i s := by
  obtain ⟨hlist, hbroken, hshape, htimer⟩ := h
  exact ⟨hlist, hbroken, fun j => ⟨(hshape j).1, (hshape j).2.1, fun _ => (hshape j).2.2⟩, htimer⟩

/-- Nothing but: record `i` lists none as its state requires. -/
theorem BindingsTrueBut.whole (h : BindingsTrueBut i s)
    (hi : (crack i s).state = .vacant ∨ (crack i s).state = .suspect → (crack i s).loops = []) : BindingsTrue s := by
  obtain ⟨hlist, hbroken, hshape, htimer⟩ := h
  refine ⟨hlist, hbroken, fun j => ⟨(hshape j).1, (hshape j).2.1, ?_⟩, htimer⟩
  by_cases hj : j = i
  · exact hj ▸ hi
  · exact (hshape j).2.2 hj

/-- Record `i` written with the list it had. -/
theorem BindingsTrueBut.setCrack (h : BindingsTrueBut i s) {r : Crack} (hr : r.loops = (crack i s).loops) :
    BindingsTrueBut i (setCrack i r s) := by
  obtain ⟨hlist, hbroken, hshape, htimer⟩ := h
  have loops : ∀ j, (crack j (Machine.setCrack i r s)).loops = (crack j s).loops := fun j => by
    rw [crack_setCrack]
    split
    · next e => rw [hr, e]
    · rfl
  refine ⟨fun m j => by rw [loops]; exact hlist m j, hbroken, fun j => ?_, htimer⟩
  rw [loops]
  refine ⟨(hshape j).1, (hshape j).2.1, fun hj => ?_⟩
  rw [crack_setCrack, if_neg hj]
  exact (hshape j).2.2 hj

/-- A crack record written with the list it had, empty where its new state lists none. -/
theorem BindingsTrue.setCrack (h : BindingsTrue s) {r : Crack} (hr : r.loops = (crack i s).loops)
    (hs : r.state = .vacant ∨ r.state = .suspect → r.loops = []) : BindingsTrue (setCrack i r s) :=
  ((h.but i).setCrack hr).whole (by rwa [crack_setCrack_same])

/-- A loop record written with the crack it was bound to. -/
theorem BindingsTrue.setLoop (h : BindingsTrue s) {r : Loop} (hr : r.bound = (loop l s).bound)
    (hb : r.bound ≠ none → r.state = .broken) (ht : r.timer ≠ none → r.state = .opening) :
    BindingsTrue (setLoop l r s) := by
  obtain ⟨hlist, hbroken, hshape, htimer⟩ := h
  have bound : ∀ m, (loop m (Machine.setLoop l r s)).bound = (loop m s).bound := fun m => by
    rw [loop_setLoop]
    split
    · next e => rw [hr, e]
    · rfl
  refine ⟨fun m j => by rw [bound]; exact hlist m j, fun m j hm => ?_, hshape, fun m hm => ?_⟩
  · rw [bound] at hm
    rw [loop_setLoop]
    split
    · next e => exact hb (by rw [hr, ← e, hm]; simp)
    · exact hbroken m j hm
  · rw [loop_setLoop] at hm ⊢
    split
    · next e => exact ht (by rwa [if_pos e] at hm)
    · next e => exact htimer m (by rwa [if_neg e] at hm)

/-- A BROKEN loop bound to no crack is bound to record `i`, at the end of its list. -/
theorem BindingsTrueBut.bindLoop (h : BindingsTrueBut i s) (hstate : (loop l s).state = .broken)
    (hfree : (loop l s).bound = none) (hlen : (crack i s).loops.length < 8) : BindingsTrueBut i (bindLoop l i s) := by
  obtain ⟨hlist, hbroken, hshape, htimer⟩ := h
  have hcrack : ∀ j, (crack j (Machine.bindLoop l i s)).loops =
      if j = i then (crack i s).loops ++ [l] else (crack j s).loops := fun j => by
    rw [Machine.bindLoop, crack_setCrack]
    split <;> rfl
  have hloop : ∀ m, loop m (Machine.bindLoop l i s) = if m = l then { loop l s with bound := some i } else loop m s :=
    fun m => loop_setLoop _ m
  have hout : ∀ j, l ∉ (crack j s).loops := fun j hm => by simp [(hlist l j).1 hm] at hfree
  refine ⟨fun m j => ?_, fun m j hm => ?_, fun j => ?_, fun m hm => ?_⟩
  · rw [hcrack, hloop]
    by_cases hm : m = l <;> by_cases hj : j = i
    · simp [hm, hj]
    · simp [hm, hj, hout j, Ne.symm hj]
    · simp [hm, hj, hlist]
    · simp [hm, hj, hlist]
  · rw [hloop] at hm ⊢
    split
    · exact hstate
    · next e => exact hbroken m j (by rwa [if_neg e] at hm)
  · rw [hcrack]
    by_cases hj : j = i
    · rw [if_pos hj]
      refine ⟨List.nodup_append.2 ⟨(hshape i).1, by simp, fun x hx y hy => ?_⟩, by simp; omega, fun h => absurd hj h⟩
      rintro rfl
      exact hout i (List.mem_singleton.1 hy ▸ hx)
    · rw [if_neg hj]
      refine ⟨(hshape j).1, (hshape j).2.1, fun _ => ?_⟩
      rw [Machine.bindLoop, crack_setCrack, if_neg hj]
      exact (hshape j).2.2 hj
  · rw [hloop] at hm ⊢
    split
    · next e => exact htimer l (by rwa [if_pos e] at hm)
    · next e => exact htimer m (by rwa [if_neg e] at hm)

/-! ### Vacating and rearming (R130, R149) -/

/-- The loops of a list bound to none. -/
theorem loop_unbindLoops (ls : List (Fin Config.loops)) (s : State) (m : Fin Config.loops) :
    loop m (unbindLoops ls s) = if m ∈ ls then { loop m s with bound := none } else loop m s := by
  induction ls generalizing s with
  | nil => rfl
  | cons x xs ih =>
    rw [unbindLoops, List.foldl_cons]
    refine (ih _).trans ?_
    rw [loop_setLoop]
    by_cases hx : m = x
    · subst hx; simp
    · simp [hx]

/-- Nothing else changes. -/
theorem unbindLoops_eq (ls : List (Fin Config.loops)) (s : State) :
    unbindLoops ls s = { s with cwu := { s.cwu with loops := (unbindLoops ls s).cwu.loops } } := by
  induction ls generalizing s with
  | nil => rfl
  | cons x xs ih => rw [unbindLoops, List.foldl_cons]; exact (ih _).trans rfl

/-- A record vacated with its loops bound to none. -/
theorem BindingsTrue.vacated (h : BindingsTrue s) (i : Fin Config.cracks) :
    BindingsTrue (Machine.setCrack i {} (unbindLoops (crack i s).loops s)) := by
  obtain ⟨hlist, hbroken, hshape, htimer⟩ := h
  have hcrack : ∀ j, crack j (Machine.setCrack i {} (unbindLoops (crack i s).loops s)) =
      if j = i then {} else crack j s := fun j => by
    rw [crack_setCrack, unbindLoops_eq]; rfl
  have hloop : ∀ m, loop m (Machine.setCrack i {} (unbindLoops (crack i s).loops s)) =
      if m ∈ (crack i s).loops then { loop m s with bound := none } else loop m s := fun m => loop_unbindLoops _ s m
  refine ⟨fun m j => ?_, fun m j hm => ?_, fun j => ?_, fun m hm => ?_⟩
  · rw [hcrack, hloop]
    have hb := hlist m
    by_cases hm : (loop m s).bound = some i
    · have hin : m ∈ (crack i s).loops := (hb i).2 hm
      by_cases hj : j = i
      · simp [hj, hin]
      · have : m ∉ (crack j s).loops := fun h => hj (Option.some.inj (((hb j).1 h).symm.trans hm))
        simp [hj, hin, this]
    · have hin : m ∉ (crack i s).loops := fun h => hm ((hb i).1 h)
      by_cases hj : j = i
      · simp [hj, hin, hm]
      · simp [hj, hin, hb j]
  · rw [hloop] at hm ⊢
    split at hm
    · cases hm
    · next e => rw [if_neg e]; exact hbroken m j hm
  · rw [hcrack]
    split
    · simp
    · exact hshape j
  · rw [hloop] at hm ⊢
    split at hm
    · next e => rw [if_pos e]; exact htimer m hm
    · next e => rw [if_neg e]; exact htimer m hm

/-- A BROKEN loop leaves the list that names it and turns INTACT. -/
theorem BindingsTrue.rearmed (h : BindingsTrue s) (hl : (loop l s).state = .broken) :
    BindingsTrue (Machine.setLoop l { loop l s with state := .intact, bound := none } (unlistLoop l s)) := by
  obtain ⟨hlist, hbroken, hshape, htimer⟩ := h
  have hcrack : ∀ j, (crack j (unlistLoop l s)).loops = (crack j s).loops.erase l ∧
      (crack j (unlistLoop l s)).state = (crack j s).state := fun j => by
    unfold unlistLoop
    split
    · next i hi =>
      rw [crack_setCrack]
      split
      · next e => rw [e]; exact ⟨rfl, rfl⟩
      · next e =>
        have : l ∉ (crack j s).loops := fun h => e (Option.some.inj (((hlist l j).1 h).symm.trans hi))
        exact ⟨(List.erase_of_not_mem this).symm, rfl⟩
    · next hn =>
      have : l ∉ (crack j s).loops := fun h => by simp [(hlist l j).1 h] at hn
      exact ⟨(List.erase_of_not_mem this).symm, rfl⟩
  have hrest : ∀ m, loop m (unlistLoop l s) = loop m s := fun m => by
    unfold unlistLoop
    split <;> rfl
  refine ⟨fun m j => ?_, fun m j hm => ?_, fun j => ?_, fun m hm => ?_⟩
  · rw [crack_setLoop, (hcrack j).1, loop_setLoop, hrest, (hshape j).1.mem_erase_iff, hlist m j]
    by_cases hm : m = l <;> simp [hm]
  · rw [loop_setLoop, hrest] at hm ⊢
    split at hm
    · cases hm
    · next e => rw [if_neg e]; exact hbroken m j hm
  · rw [crack_setLoop, (hcrack j).1, (hcrack j).2]
    refine ⟨(hshape j).1.erase l, (List.length_erase_le).trans (hshape j).2.1, fun hs => ?_⟩
    rw [(hshape j).2.2 hs]
    rfl
  · rw [loop_setLoop, hrest] at hm ⊢
    split at hm
    · have := htimer l hm
      rw [hl] at this
      cases this
    · next e => rw [if_neg e]; exact htimer m hm

end Sys2Proof.Machine
end

section
/-! The Crack Watch's events and requests keep the invariants (R127 to R163). -/
namespace Sys2Proof.Machine

variable {s t : State} {i : Fin Config.cracks} {l : Fin Config.loops}

/-! ### Records opened, confirmed, vacated -/

@[simp] theorem CrackEvent.map_state (e : CrackEvent) (f : State → State) : (e.map f).state = f e.state := rfl

theorem confirmRecord_state (i : Fin Config.cracks) (e : CrackEvent) :
    (confirmRecord i e).state = setCrack i ((crack i e.state).confirmed e.state.cwu.confirmDerate) e.state := by
  simp [confirmRecord]

theorem vacateRecord_state (i : Fin Config.cracks) (e : CrackEvent) :
    (vacateRecord i e).state = setCrack i {} (unbindLoops (crack i e.state).loops e.state) := by
  simp [vacateRecord]

theorem InvKept.confirmRecord (i : Fin Config.cracks) (e : CrackEvent) : InvKept e.state (confirmRecord i e).state := by
  rw [confirmRecord_state]
  exact .of_ties rfl fun h => h.setCrack rfl (by simp [Crack.confirmed])

theorem InvKept.vacateRecord (i : Fin Config.cracks) (e : CrackEvent) : InvKept e.state (vacateRecord i e).state := by
  rw [vacateRecord_state]
  refine .of_ties ?_ fun h => h.vacated i
  rw [unbindLoops_eq]
  rfl

/-- The record opened lists no loop, as the VACANT one it replaces. -/
theorem InvKept.openRecord {e : CrackEvent} (hv : (crack i e.state).state = .vacant) (o : Origin) (x lo hi : Nat)
    (st : CrackState) (d w : Nat) : InvKept e.state (openRecord i o x lo hi st d w e).state := by
  have opened : (Machine.openRecord i o x lo hi st d w e).state = setCrack i
      { state := st, origin := some o, seed := x, zone := decodeStation x e.state, lo := lo, hi := hi, confWidth := w,
        openedPass := e.state.lsq.passCount, derate := d } e.state := by simp [Machine.openRecord]
  rw [opened]
  exact .of_ties rfl fun h => h.setCrack ((h.2.2.1 i).2.2 (.inl hv)).symm fun _ => rfl

/-- The lowest VACANT id names a VACANT record. -/
theorem vacant_of_vacantId (h : vacantId s = some i) : (crack i s).state = .vacant := by
  simpa using List.find?_some h

/-- The growth test marks a record at most. -/
theorem wardOf_growthTest (i : Fin Config.cracks) (e : CrackEvent) :
    wardOf (growthTest i e).state = wardOf e.state := by
  unfold growthTest
  dsimp only
  split
  · exact wardOf_setCrack rfl
  · rfl

/-! ### Acoustic evidence and the interval close -/

theorem InvKept.joinAcoustic (i : Fin Config.cracks) (x : Nat) (e : CrackEvent) :
    InvKept e.state (joinAcoustic i x e).state := by
  have joined : wardOf (e.map (setCrack i
      { (crack i e.state).widen x with hits := min 65535 ((crack i e.state).hits + 1) })).state = wardOf e.state :=
    wardOf_setCrack rfl
  unfold Machine.joinAcoustic
  dsimp only
  split
  · exact .after_ward joined (.confirmRecord i _)
  · exact (InvKept.of_ward joined).then_ward (wardOf_growthTest i _)
  · exact .of_ward joined
  · exact .of_ward joined

theorem InvKept.acousticEvidence (x z : Nat) (e : CrackEvent) : InvKept e.state (acousticEvidence x z e).state := by
  unfold Machine.acousticEvidence
  split
  · exact .joinAcoustic _ x e
  · exact .of_ward (by simp)

theorem InvKept.settleSuspect (e : CrackEvent) (i : Fin Config.cracks) : InvKept e.state (settleSuspect e i).state := by
  unfold Machine.settleSuspect
  dsimp only
  (repeat' split)
  · exact .refl _
  · exact .confirmRecord i e
  · exact .vacateRecord i e
  · exact .refl _

theorem InvKept.openFromTally (e : CrackEvent) (t : Tally) : InvKept e.state (openFromTally e t).state := by
  unfold Machine.openFromTally
  (repeat' split)
  · exact .refl _
  · next h => exact .openRecord (vacant_of_vacantId h) _ _ _ _ _ _ _
  · exact .of_ward rfl

/-- A run of events. -/
theorem InvKept.foldlEvent {α : Type} {f : CrackEvent → α → CrackEvent}
    (h : ∀ e x, InvKept e.state (f e x).state) (xs : List α) (e : CrackEvent) :
    InvKept e.state (xs.foldl f e).state := by
  induction xs generalizing e with
  | nil => exact .refl _
  | cons x xs ih => exact (h e x).trans (ih _)

/-- The evaluation of a record changes neither its state nor its list. -/
theorem tie_evaluated (n : Nat) (r : Crack) : (r.evaluated n).tie = r.tie := by
  unfold Crack.evaluated
  (repeat' split) <;> rfl

theorem InvKept.takeCwuClose (s : State) : InvKept s (takeCwuClose s) := by
  have h := table_map_map Crack.tie s.cwu.cracks (tie_evaluated s.cwu.threshold)
  have evaluated : wardOf (onCwu (fun w => { w with cracks := w.cracks.map (Crack.evaluated w.threshold) }) s) =
      wardOf s := by simp only [wardOf, keysOf, tiesOf, rangeOf, onCwu, h]
  have settled := InvKept.foldlEvent .settleSuspect (indices Config.cracks)
    (crackEvent (onCwu (fun w => { w with cracks := w.cracks.map (Crack.evaluated w.threshold) }) s))
  exact (InvKept.after_ward evaluated (settled.trans (.foldlEvent .openFromTally s.cwu.tallies.rows _))).then_ward
    (by simp [Machine.takeCwuClose])

/-! ### The record evidence joins (R152) -/

/-- The pick of the least measure, the earliest where two have it. -/
def oldestOf {n : Nat} (f : Fin n → Nat) (best : Option (Fin n)) (i : Fin n) : Option (Fin n) :=
  match best with
  | none => some i
  | some j => if f i < f j then some i else some j

/-- The least measure of a list, at the lowest number. -/
def Oldest {n : Nat} (f : Fin n → Nat) (xs : List (Fin n)) (i : Fin n) : Prop :=
  i ∈ xs ∧ ∀ j ∈ xs, j ≠ i → f i < f j ∨ (f i = f j ∧ i < j)

/-- Picking through an ascending list ends at its oldest. -/
theorem foldl_oldestOf {n : Nat} (f : Fin n → Nat) (xs : List (Fin n)) (j : Fin n) (h : (j :: xs).Pairwise (· < ·)) :
    ∃ k, xs.foldl (oldestOf f) (some j) = some k ∧ Oldest f (j :: xs) k := by
  induction xs generalizing j with
  | nil => exact ⟨j, rfl, by simp [Oldest]⟩
  | cons x xs ih =>
    obtain ⟨hj, hx⟩ := List.pairwise_cons.1 h
    have hjx := hj x List.mem_cons_self
    rw [List.foldl_cons]
    by_cases hf : f x < f j
    · obtain ⟨k, hk, hmem, hleast⟩ := ih x hx
      refine ⟨k, by simpa [oldestOf, hf] using hk, List.mem_cons_of_mem _ hmem, fun m hm hmk => ?_⟩
      rcases List.mem_cons.1 hm with rfl | hm
      · by_cases hkx : k = x
        · exact .inl (hkx ▸ hf)
        · rcases hleast x List.mem_cons_self (Ne.symm hkx) with h | h <;> exact .inl (by omega)
      · exact hleast m hm hmk
    · obtain ⟨hjxs, -⟩ : (∀ y ∈ xs, j < y) ∧ True := ⟨fun y hy => hj y (List.mem_cons_of_mem _ hy), trivial⟩
      obtain ⟨k, hk, hmem, hleast⟩ := ih j (List.pairwise_cons.2 ⟨hjxs, (List.pairwise_cons.1 hx).2⟩)
      have hin : k ∈ j :: x :: xs := by
        rcases List.mem_cons.1 hmem with rfl | hm
        · exact List.mem_cons_self
        · exact List.mem_cons_of_mem _ (List.mem_cons_of_mem _ hm)
      refine ⟨k, by simpa [oldestOf, hf] using hk, hin, fun m hm hmk => ?_⟩
      rcases List.mem_cons.1 hm with rfl | hm
      · exact hleast m List.mem_cons_self hmk
      · rcases List.mem_cons.1 hm with rfl | hm
        · by_cases hkj : k = j
          · subst hkj
            rcases Nat.lt_or_eq_of_le (Nat.not_lt.1 hf) with h | h
            · exact .inl h
            · exact .inr ⟨h, hjx⟩
          · have hkxs : k ∈ xs := (List.mem_cons.1 hmem).resolve_left hkj
            rcases hleast j List.mem_cons_self (Ne.symm hkj) with h | h
            · exact .inl (by omega)
            · exact absurd h.2 (not_lt_of_gt (hjxs k hkxs))
        · exact hleast m (List.mem_cons_of_mem _ hm) hmk

/-- Two oldest of one list are one. -/
theorem Oldest.unique {n : Nat} {f : Fin n → Nat} {xs : List (Fin n)} {i k : Fin n} (hi : Oldest f xs i)
    (hk : Oldest f xs k) : i = k := by
  by_contra hne
  rcases hi.2 k hk.1 (Ne.symm hne) with h | ⟨h, hlt⟩ <;> rcases hk.2 i hi.1 hne with h' | ⟨h', hlt'⟩
  · omega
  · omega
  · omega
  · exact absurd hlt (not_lt_of_gt hlt')

/-- The record is open, evidence at `x` lies within the join distance of its extent, and it has room for a loop. -/
def JoinFits (wire : Bool) (x : Nat) (s : State) (i : Fin Config.cracks) : Prop :=
  (crack i s).state ≠ .vacant ∧ (crack i s).lo ≤ x + s.cwu.joinDistance ∧ x ≤ (crack i s).hi + s.cwu.joinDistance ∧
    (wire = true → (crack i s).loops.length < 8)

theorem qualifies_iff (wire : Bool) (x : Nat) (s : State) (i : Fin Config.cracks) :
    (crack i s).qualifies wire s.cwu.joinDistance x = true ↔ JoinFits wire x s i := by
  have h8 : Config.loopsPerCrack = 8 := rfl
  simp only [Crack.qualifies, JoinFits, Bool.and_eq_true, bne_iff_ne, inRange_iff, Bool.not_eq_true', h8,
    Bool.and_eq_false_iff, decide_eq_false_iff_not]
  constructor
  · rintro ⟨⟨hv, hx⟩, hw⟩
    exact ⟨hv, by omega, by omega, fun h => by rcases hw with hw | hw <;> [exact absurd (h.symm.trans hw) (by decide); omega]⟩
  · rintro ⟨hv, hl, hh, hw⟩
    refine ⟨⟨hv, by omega⟩, ?_⟩
    cases wire with
    | false => exact .inl rfl
    | true => exact .inr (by have := hw rfl; omega)

/-- The records evidence at `x` may join, in order. -/
def joinable (wire : Bool) (x : Nat) (s : State) : List (Fin Config.cracks) :=
  (indices Config.cracks).filter fun i => (crack i s).qualifies wire s.cwu.joinDistance x

theorem mem_joinable {wire : Bool} {x : Nat} : i ∈ joinable wire x s ↔ JoinFits wire x s i := by
  rw [joinable, List.mem_filter, qualifies_iff]
  exact and_iff_right (mem_indices i)

theorem joinedRecord_eq (wire : Bool) (x : Nat) (s : State) :
    joinedRecord wire x s = (joinable wire x s).foldl (oldestOf fun i => (crack i s).openedPass) none := by
  refine congrArg (fun f => (joinable wire x s).foldl f none) (funext fun best => funext fun i => ?_)
  cases best <;> rfl

/-- None is joined exactly where none may be; one is exactly where it is the oldest of those. -/
theorem joinedRecord_spec (wire : Bool) (x : Nat) (s : State) :
    (joinedRecord wire x s = none ↔ ∀ i, ¬ JoinFits wire x s i) ∧
    ∀ i, joinedRecord wire x s = some i ↔ Oldest (fun i => (crack i s).openedPass) (joinable wire x s) i := by
  have hsorted : (joinable wire x s).Pairwise (· < ·) := by
    rw [joinable, indices_eq_finRange]
    exact (List.pairwise_lt_finRange _).filter _
  rw [joinedRecord_eq]
  simp only [← mem_joinable]
  generalize joinable wire x s = xs at hsorted
  cases xs with
  | nil => simp [Oldest]
  | cons j xs =>
    obtain ⟨k, hk, hold⟩ := foldl_oldestOf (fun i => (crack i s).openedPass) xs j hsorted
    rw [List.foldl_cons]
    have hk' : xs.foldl (oldestOf fun i => (crack i s).openedPass) (oldestOf (fun i => (crack i s).openedPass) none j) =
      some k := hk
    rw [hk']
    refine ⟨⟨fun h => (nomatch h), fun h => absurd List.mem_cons_self (h j)⟩, fun i => ⟨fun h => ?_, fun h => ?_⟩⟩
    · cases h
      exact hold
    · rw [hold.unique h]

/-- The record joined may be. -/
theorem joinFits_of_joinedRecord {wire : Bool} {x : Nat} (h : joinedRecord wire x s = some i) : JoinFits wire x s i :=
  mem_joinable.1 (((joinedRecord_spec wire x s).2 i).1 h).1

/-! ### Wire evidence (R127, R154, R156) -/

@[simp] theorem offTiesOf_setCrack (r : Crack) : offTiesOf (setCrack i r s) = offTiesOf s := rfl
@[simp] theorem offTiesOf_bindLoop : offTiesOf (bindLoop l i s) = offTiesOf s := rfl

theorem offTiesOf_confirmRecord (i : Fin Config.cracks) (e : CrackEvent) :
    offTiesOf (confirmRecord i e).state = offTiesOf e.state := by rw [confirmRecord_state]; rfl

theorem offTiesOf_growthTest (i : Fin Config.cracks) (e : CrackEvent) :
    offTiesOf (growthTest i e).state = offTiesOf e.state := offTiesOf_of_ward (wardOf_growthTest i e)

/-- A record bound the loop and confirmed. -/
theorem BindingsTrueBut.confirmed (h : BindingsTrueBut i s) (e : CrackEvent) (he : e.state = s) :
    BindingsTrue (confirmRecord i e).state := by
  subst he
  rw [confirmRecord_state]
  refine (h.setCrack (r := (crack i e.state).confirmed e.state.cwu.confirmDerate) rfl).whole ?_
  rw [crack_setCrack_same]
  simp [Crack.confirmed]

/-- Wire evidence that joins a record with room for a loop. -/
theorem joinWire_kept (x : Nat) (e : CrackEvent) (hf : JoinFits true x e.state i) :
    offTiesOf (joinWire l i x e).state = offTiesOf e.state ∧
      ((loop l e.state).state = .broken → (loop l e.state).bound = none → BindingsTrue e.state →
        BindingsTrue (joinWire l i x e).state) := by
  obtain ⟨hv, -, -, hroom⟩ := hf
  have bound : (loop l e.state).state = .broken → (loop l e.state).bound = none → BindingsTrue e.state →
      BindingsTrueBut i (bindLoop l i (setCrack i ((crack i e.state).widen x) e.state)) := fun hb hn h =>
    ((h.but i).setCrack (r := (crack i e.state).widen x) rfl).bindLoop hb hn (by rw [crack_setCrack_same]; exact hroom rfl)
  have hstate : (crack i (bindLoop l i (setCrack i ((crack i e.state).widen x) e.state))).state =
      (crack i e.state).state := by
    rw [bindLoop, crack_setCrack_same, crack_setCrack_same]
    rfl
  unfold joinWire
  dsimp only
  split
  · next hc =>
    refine ⟨offTiesOf_growthTest i _, fun hb hn h => ?_⟩
    refine (InvKept.of_ward (wardOf_growthTest i _)).bindings ((bound hb hn h).whole ?_)
    rw [hstate, hc]
    simp
  · exact ⟨offTiesOf_confirmRecord i _, fun hb hn h => (bound hb hn h).confirmed _ rfl⟩
  · exact ⟨offTiesOf_confirmRecord i _, fun hb hn h => (bound hb hn h).confirmed _ rfl⟩
  · next hc => exact absurd hc hv

/-- Wire evidence of a BROKEN loop bound to no crack. -/
theorem wireEvidence_kept (x : Nat) (e : CrackEvent) :
    offTiesOf (wireEvidence l x e).state = offTiesOf e.state ∧
      ((loop l e.state).state = .broken → (loop l e.state).bound = none → BindingsTrue e.state →
        BindingsTrue (wireEvidence l x e).state) := by
  unfold wireEvidence
  split
  · next i hi => exact joinWire_kept x e (joinFits_of_joinedRecord hi)
  · split
    · next i hi =>
      refine ⟨(offTiesOf_confirmRecord i _).trans ?_, fun hb hn h => ?_⟩
      · simp only [openRecord, CrackEvent.map_state, CrackEvent_touch_state, CrackEvent_raise_state]
        rfl
      · have opened := (InvKept.openRecord (vacant_of_vacantId hi) .wire x x x .confirmed 100 0).bindings h
        refine BindingsTrueBut.confirmed ((opened.but i).bindLoop ?_ ?_ ?_) _ rfl <;>
          simp [openRecord, hb, hn]
    · exact ⟨rfl, fun _ _ h => h⟩

/-- A loop record once its confirm timer expires. -/
def Loop.broken (r : Loop) : Loop := { r with state := .broken, timer := none }

/-- The event of a confirm timer's expiry before its evidence. -/
def brokenEvent (l : Fin Config.loops) (s : State) : CrackEvent :=
  ((crackEvent s).map (setLoop l (loop l s).broken)).raise .loopBroken

/-- A timer that runs. -/
theorem takeConfirmTimerExpiry_running (h : (loop l s).timer ≠ none) :
    takeConfirmTimerExpiry l s = (wireEvidence l (loop l s).station (brokenEvent l s)).finish := if_neg h

/-- A timer that does not. -/
theorem takeConfirmTimerExpiry_stopped (h : (loop l s).timer = none) : takeConfirmTimerExpiry l s = s := if_pos h

@[simp] theorem brokenEvent_state (l : Fin Config.loops) (s : State) :
    (brokenEvent l s).state = setLoop l (loop l s).broken s := rfl

/-- A confirm timer that runs is that of an OPENING loop, which is bound to no crack. -/
theorem InvKept.takeConfirmTimerExpiry (l : Fin Config.loops) (s : State) : InvKept s (takeConfirmTimerExpiry l s) := by
  by_cases ht : (loop l s).timer = none
  · rw [takeConfirmTimerExpiry_stopped ht]
    exact .refl s
  rw [takeConfirmTimerExpiry_running ht]
  obtain ⟨hoff, hties⟩ := wireEvidence_kept (l := l) (loop l s).station (brokenEvent l s)
  refine .then_ward (.of_ties hoff fun h => ?_) (wardOf_CrackEvent_finish _)
  have hfree : (loop l s).bound = none := Option.eq_none_iff_forall_ne_some.2 fun i hi => by
    have := (h.2.1 l i hi).symm.trans (h.2.2.2 l ht)
    cases this
  have hnew : loop l (brokenEvent l s).state = (loop l s).broken := Table.get_set_same _ _ _
  refine hties (by rw [hnew]; rfl) (by rw [hnew]; exact hfree) ?_
  exact BindingsTrue.setLoop h rfl (fun _ => rfl) (fun h => absurd rfl h)

/-! ### Loop lines and requests (R126, R129 to R131) -/

theorem InvKept.setLoop {r : Loop} (h : BindingsTrue s → r.bound = (loop l s).bound ∧ (r.bound ≠ none → r.state = .broken) ∧
    (r.timer ≠ none → r.state = .opening)) : InvKept s (setLoop l r s) :=
  .of_ties rfl fun hs => by
    obtain ⟨hb, hs', ht⟩ := h hs
    exact hs.setLoop hb hs' ht

/-- What a true record of a loop says of it. -/
theorem BindingsTrue.loop (h : BindingsTrue s) (l : Fin Config.loops) :
    ((Machine.loop l s).bound ≠ none → (Machine.loop l s).state = .broken) ∧
      ((Machine.loop l s).timer ≠ none → (Machine.loop l s).state = .opening) := by
  obtain ⟨-, hbroken, -, htimer⟩ := h
  refine ⟨fun hb => ?_, htimer l⟩
  obtain ⟨i, hi⟩ := Option.ne_none_iff_exists'.1 hb
  exact hbroken l i hi

theorem InvKept.takeLineChange (l : Fin Config.loops) (closed : Bool) (s : State) :
    InvKept s (takeLineChange l closed s) := by
  refine .after_ward (t := setLoopInput l closed s) rfl ?_
  unfold Machine.takeLineChange Machine.unlessHeld
  split
  · exact .refl _
  refine .setLoop fun h => ?_
  obtain ⟨hb, ht⟩ := h.loop l
  unfold Loop.line
  split
  · next hst => exact ⟨rfl, fun hn => absurd ((hb hn).symm.trans hst) (by decide), fun _ => rfl⟩
  · next hst => exact ⟨rfl, fun hn => absurd ((hb hn).symm.trans hst) (by decide), fun hn => absurd rfl hn⟩
  · exact ⟨rfl, hb, ht⟩

theorem InvKept.takeEnableLoop (l : Fin Config.loops) (s : State) : InvKept s (takeEnableLoop l s).1 := by
  unfold Machine.takeEnableLoop
  dsimp only
  (repeat' split)
  · exact .refl s
  · exact .refl s
  · refine .setLoop fun h => ?_
    obtain ⟨hb, ht⟩ := h.loop l
    simp_all

theorem InvKept.takeRearmLoop (l : Fin Config.loops) (s : State) : InvKept s (takeRearmLoop l s).1 := by
  unfold Machine.takeRearmLoop
  dsimp only
  (repeat' split)
  · exact .refl s
  · exact .refl s
  · next hb _ =>
    refine .of_ties ?_ fun h => h.rearmed (by simpa using hb)
    unfold unlistLoop
    rw [done_fst]
    split <;> rfl

theorem InvKept.takeDisableLoop (l : Fin Config.loops) (s : State) : InvKept s (takeDisableLoop l s).1 := by
  unfold Machine.takeDisableLoop
  dsimp only
  split
  · refine .setLoop fun h => ?_
    obtain ⟨hb, ht⟩ := h.loop l
    simp_all
  · refine .setLoop fun h => ?_
    obtain ⟨hb, ht⟩ := h.loop l
    simp_all
  · exact .refl s
  · exact .refl s

/-- The hits are dropped; a loop's restart leaves its bound crack, BROKEN and OPENING alone. -/
theorem InvKept.restartCwu (s : State) : InvKept s (restartCwu s) := by
  have hloop : ∀ m, loop m (Machine.restartCwu s) = (loop m s).restarted := fun m => Table.get_map _ _ m
  refine ⟨id, id, id, fun _ => ⟨Nat.zero_le _, .nil⟩, fun h => ?_, id⟩
  have restarted : ∀ r : Loop, (r.bound ≠ none → r.state = .broken) → (r.timer ≠ none → r.state = .opening) →
      r.restarted.bound = r.bound ∧ (r.bound ≠ none → r.restarted.state = .broken) ∧
      (r.restarted.timer ≠ none → r.restarted.state = .opening) := fun r hb ht => by
    unfold Loop.restarted
    split
    · next hst _ => exact ⟨rfl, fun hn => absurd ((hb hn).symm.trans hst) (by decide), fun hn => absurd rfl hn⟩
    · next hst _ => exact ⟨rfl, hb, fun _ => hst⟩
    · exact ⟨rfl, hb, ht⟩
  have each := fun m => restarted (loop m s) (h.loop m).1 (h.loop m).2
  obtain ⟨hlist, -, hshape, -⟩ := h
  refine ⟨fun m j => ?_, fun m j hm => ?_, hshape, fun m hm => ?_⟩
  · rw [hloop, (each m).1]
    exact hlist m j
  · rw [hloop, (each m).1] at hm
    rw [hloop]
    exact (each m).2.1 (by simp [hm])
  · rw [hloop] at hm ⊢
    exact (each m).2.2 hm

/-! ### Crack requests (R160 to R163) -/

theorem InvKept.takeOpenCrack (x lo hi : Nat) (st : CrackState) (d : Nat) (s : State) :
    InvKept s (takeOpenCrack x lo hi st d s).1 := by
  unfold Machine.takeOpenCrack
  split
  · exact .refl s
  · next h => exact (InvKept.openRecord (e := crackEvent s) (vacant_of_vacantId h) _ _ _ _ _ _ _).then_ward (wardOf_CrackEvent_finish _)

theorem InvKept.parseOpenCrack (ps : List Byte) (s : State) : InvKept s (parseOpenCrack ps s).1 := by
  unfold Machine.parseOpenCrack
  dsimp only
  (repeat' split)
  · exact .takeOpenCrack _ _ _ _ _ s
  · exact .refl s
  · exact .refl s
  · exact .refl s

theorem InvKept.takeConfirmCrack (i : Fin Config.cracks) (s : State) : InvKept s (takeConfirmCrack i s).1 := by
  unfold Machine.takeConfirmCrack
  split
  · exact (InvKept.confirmRecord i (crackEvent s)).then_ward (by simp)
  · exact .refl s

theorem InvKept.takeArrestCrack (i : Fin Config.cracks) (s : State) : InvKept s (takeArrestCrack i s).1 := by
  unfold Machine.takeArrestCrack
  dsimp only
  split
  · have arrested : InvKept s (setCrack i { crack i s with state := .arrested, derate := s.cwu.arrestDerate } s) :=
      .of_ties rfl fun h => h.setCrack rfl (by simp)
    exact arrested.then_ward (by simp)
  · exact .refl s

theorem InvKept.takeRetireCrack (i : Fin Config.cracks) (s : State) : InvKept s (takeRetireCrack i s).1 := by
  have vacated : InvKept s (Machine.vacateRecord i (crackEvent s)).finish :=
    (InvKept.vacateRecord i (crackEvent s)).then_ward (by simp)
  unfold Machine.takeRetireCrack
  split
  · exact vacated
  · exact vacated
  · exact .refl s
  · exact .refl s

end Sys2Proof.Machine
end

section
/-! Hits, field writes, the shared forms of a request, and every command: the invariants but the attention line's stay
true (R1, R8, R84, R132, R138). -/
namespace Sys2Proof.Machine

variable {s t : State}

/-! ### The pending hits (R133, R136 to R138) -/

/-- A change of the hits alone. -/
theorem InvKept.of_hits {hits : List Hit} (h : HitsTrue s → HitsTrue (setHits hits s)) : InvKept s (setHits hits s) :=
  ⟨id, id, id, h, id, id⟩

/-- Part of the hits in their order. -/
theorem InvKept.fewerHits {hits : List Hit} (h : hits.Sublist s.cwu.hits) : InvKept s (setHits hits s) :=
  .of_hits fun hs => ⟨h.length_le.trans hs.1, hs.2.sublist h⟩

/-- A hit that is no duplicate, appended. -/
theorem InvKept.appendHit {h : Hit} {hits : List Hit} (hsub : hits.Sublist s.cwu.hits)
    (hnew : isDuplicate h hits = false) : InvKept s (setHits (appendHit h hits) s) := by
  refine .of_hits fun hs => ?_
  have hlen : hits.length ≤ 32 := hsub.length_le.trans hs.1
  have hpair := hs.2.sublist hsub
  have hkept : (if Config.pendingHits ≤ hits.length then hits.drop 1 else hits).Sublist hits := by
    split
    · exact List.drop_sublist 1 hits
    · exact List.Sublist.refl hits
  have hroom : (if Config.pendingHits ≤ hits.length then hits.drop 1 else hits).length ≤ 31 := by
    have h32 : Config.pendingHits = 32 := rfl
    split
    · rw [List.length_drop]; omega
    · omega
  refine ⟨?_, List.pairwise_append.2 ⟨hpair.sublist hkept, List.pairwise_singleton _ _, fun e he x hx => ?_⟩⟩
  · show (Machine.appendHit h hits).length ≤ 32
    rw [Machine.appendHit, List.length_append, List.length_singleton]
    omega
  · rw [List.mem_singleton.1 hx]
    rintro ⟨h1, h2⟩
    have : isDuplicate h hits = true := List.any_eq_true.2 ⟨e, hkept.subset he, by simp [h1, h2]⟩
    exact Bool.false_ne_true (hnew.symm.trans this)

theorem InvKept.takeLocated (x a : Nat) (s : State) : InvKept s (takeLocated x a s) := by
  unfold Machine.takeLocated
  split
  · exact .refl s
  · exact (InvKept.acousticEvidence x _ (crackEvent s)).then_ward (wardOf_CrackEvent_finish _)

theorem InvKept.takeHit (u : List Byte) (s : State) : InvKept s (takeHit u s) := by
  unfold Machine.takeHit
  split
  · exact .refl s
  next h _ =>
  have pruned : (prune (largestWindow s) h.time s.cwu.hits).Sublist s.cwu.hits := List.filter_sublist
  dsimp only
  split
  · exact .fewerHits pruned
  next hnew =>
  unfold pairHit
  split
  · exact (InvKept.fewerHits (List.erase_sublist.trans pruned)).trans (.takeLocated _ _ _)
  · exact .appendHit pruned (by simpa using hnew)

theorem InvKept.forgetHits (c : Fin Config.sensors) (s : State) : InvKept s (forgetHits c s) :=
  .fewerHits (hits := s.cwu.hits.filter fun h => h.sensor != c) List.filter_sublist

/-! ### Field writes (R4, R188) -/

theorem InvKept.writeSensor (c : Fin Config.sensors) (f : Nat) (x : Int) (s : State) :
    InvKept s (writeSensor c f x s).1 := by
  have sensor : ∀ r, InvKept s (setSensor c r s) := fun r => .of_ward (wardOf_setSensor c r)
  unfold Machine.writeSensor storeSensorStation storeSensorEnabled
  dsimp only
  (repeat' split)
  · exact .refl s
  · exact .refl s
  · exact (sensor _).trans (.forgetHits c _)
  · exact sensor _
  · exact .refl s
  · exact .refl s
  · exact (sensor _).trans (.forgetHits c _)
  · exact sensor _
  · exact .refl s

theorem InvKept.writeZoneField (z f : Nat) (x : Int) (s : State) : InvKept s (Machine.writeZone z f x s).1 := by
  unfold Machine.writeZone
  (repeat' split)
  · exact .refl s
  · exact .refl s
  · exact .refl s
  · exact .writeZone z _ s
  · exact .writeZone z _ s

theorem wardOf_onAch {s : State} (f : Ach → Ach) : wardOf (onAch f s) = wardOf s := rfl

theorem InvKept.writeSetting (f : Nat) (x : Int) (s : State) : InvKept s (writeSetting f x s).1 := by
  unfold Machine.writeSetting
  (repeat' split)
  · exact .writeTripCount _ s
  all_goals exact .of_ward (by simp [wardOf_onAch])

/-- A claim offered to a record by number. -/
theorem InvKept.writeRecord {n : Nat} {f : Fin n → Nat → Int → State → State × Option Reason}
    (h : ∀ i, ∀ k x s, InvKept s (f i k x s).1) (r k : Nat) (x : Int) (s : State) :
    InvKept s (writeRecord f r k x s).1 := by
  unfold Machine.writeRecord
  split
  · exact h _ _ _ s
  · exact .refl s

theorem InvKept.writeCell (t : WTable) (r f : Nat) (v : Word) (s : State) : InvKept s (writeCell t r f v s).1 := by
  cases t with
  | gauges => exact .writeRecord .writeGauge _ _ _ s
  | cracks => exact .writeRecord (fun i k x s => .of_ward (wardOf_writeCrack i k x)) _ _ _ s
  | loops => exact .writeRecord (fun i k x s => .of_ward (wardOf_writeLoop i k x)) _ _ _ s
  | sensors => exact .writeRecord .writeSensor _ _ _ s
  | zones => exact .writeZoneField _ _ _ s
  | actuators => exact .writeRecord (fun i k x s => .of_ward (wardOf_writeActuator i k x)) _ _ _ s
  | standbyBank => exact .of_ward (wardOf_writeStandbyBank _ _)
  | activeBank => exact .refl s
  | settings => exact .writeSetting _ _ s

theorem InvKept.writeCells (t : WTable) (cs : List ((Nat × Nat) × Word)) (s : State) :
    InvKept s (writeCells t cs s).1 := by
  induction cs generalizing s with
  | nil => exact .refl s
  | cons c cs ih => exact (InvKept.writeCell t _ _ _ s).trans (ih _)

theorem InvKept.takeSettingClaims (b : Block) (claims : List SettingClaim) (s : State) :
    InvKept s (takeSettingClaims b claims s).1 := by
  have : ∀ (cs : List SettingClaim) (x : State × List SettingClaim), InvKept x.1 (cs.foldl (fun t c =>
      if settingOwner c.field = b then
        ((Machine.writeCell .settings 0 c.field c.value t.1).1,
          t.2 ++ [{ c with outcome := some (Machine.writeCell .settings 0 c.field c.value t.1).2 }])
      else (t.1, t.2 ++ [c])) x).1 := by
    intro cs
    induction cs with
    | nil => exact fun x => .refl _
    | cons c cs ih =>
      intro x
      rw [List.foldl_cons]
      refine .trans ?_ (ih _)
      split
      · exact .writeCell _ _ _ _ _
      · exact .refl _
  exact this claims (s, [])

/-! ### Requests of the port -/

theorem InvKept.setTheWindow (w : Window) (s : State) : InvKept s (setTheWindow w s) := .of_ward rfl
theorem InvKept.asking (g : Gather) (s : State) : InvKept s (asking g s).1 := .of_ward rfl

theorem InvKept.takeSetWindow (ps : List Byte) (s : State) : InvKept s (takeSetWindow ps s).1 := by
  unfold Machine.takeSetWindow
  dsimp only
  (repeat' split) <;> exact .of_ward rfl

theorem InvKept.takeReadData (n : Nat) (s : State) : InvKept s (takeReadData n s).1 := by
  have moved : ∀ w t, InvKept t (if s.sp.amend then t else Machine.setTheWindow w t) := fun w t => by
    split
    · exact .refl t
    · exact .setTheWindow w t
  unfold Machine.takeReadData
  split
  · exact .refl s
  · split
    · exact .refl s
    · dsimp only
      split
      · exact (moved _ s).trans (.asking _ _)
      · exact (InvKept.of_ward (wardOf_readCells _ _)).trans (moved _ _)

theorem InvKept.takeWriteData (ps : List Byte) (s : State) : InvKept s (takeWriteData ps s).1 := by
  unfold Machine.takeWriteData
  (repeat' split)
  · exact .refl s
  · exact .refl s
  · exact (InvKept.setTheWindow _ s).trans (.asking _ _)
  · exact ((InvKept.writeCells _ _ s).then_ward (wardOf_sendAll _)).trans (.setTheWindow _ _)

theorem InvKept.takeRestart (s : State) : InvKept s (takeRestart s).1 := by
  unfold Machine.takeRestart
  split <;> exact .of_ward rfl

/-! ### The shared forms of a command -/

theorem InvKept.unlessHeld {f : State → State} (h : ∀ s, InvKept s (f s)) (s : State) : InvKept s (unlessHeld f s) := by
  unfold Machine.unlessHeld
  split
  · exact .refl s
  · exact h s

theorem InvKept.arrival {m : Instr} {f : State → State} (h : ∀ s, InvKept s (f s)) (s : State) :
    InvKept s (Machine.unlessHeld (fun s => f (arrive m s)) s) :=
  .unlessHeld (fun s => .after_ward (wardOf_arrive (s := s) m) (h _)) s

theorem InvKept.request {code : Byte} {keeps : Bool} {take : List Byte → State → Taken}
    (h : ∀ ps s, InvKept s (take ps s).1) (tail : List Byte) (s : State) :
    InvKept s (Machine.unlessHeld (portFrame code keeps take tail) s) := by
  refine .unlessHeld (fun s => ?_) s
  have occupied : InvKept s (occupySlot code s) := .of_ward rfl
  have ended : InvKept s (endAmend (occupySlot code s)) := .of_ward rfl
  unfold portFrame
  split
  · exact .of_ward rfl
  · split
    · exact ended.then_ward (wardOf_postTaken code (refuse (endAmend (occupySlot code s)) .format))
    · refine InvKept.trans ?_ ((h _ _).then_ward (wardOf_postTaken code _))
      split
      · exact occupied
      · exact ended

theorem InvKept.noParams {f : State → Taken} (h : ∀ s, InvKept s (f s).1) (ps : List Byte) (s : State) :
    InvKept s (noParams f ps s).1 := by
  unfold Machine.noParams
  split
  · exact h s
  · exact .refl s

theorem InvKept.oneByte {f : Nat → State → Taken} (h : ∀ n s, InvKept s (f n s).1) (ps : List Byte) (s : State) :
    InvKept s (oneByte f ps s).1 := by
  unfold Machine.oneByte
  split
  · exact h _ s
  · exact .refl s

theorem InvKept.oneWord {f : Nat → State → Taken} (h : ∀ n s, InvKept s (f n s).1) (ps : List Byte) (s : State) :
    InvKept s (oneWord f ps s).1 := by
  unfold Machine.oneWord
  split
  · exact h _ s
  · exact .refl s

theorem InvKept.indexed {n : Nat} {f : Fin n → State → Taken} (h : ∀ i s, InvKept s (f i s).1) (i : Nat) (s : State) :
    InvKept s (indexed f i s).1 := by
  unfold Machine.indexed
  split
  · exact h _ s
  · exact .refl s

/-! ### The answers and the restart parts at SP -/

theorem InvKept.ownerEvent (b : Block) (op : GatherOp) (s : State) : InvKept s (ownerEvent b op s).1 := by
  cases op with
  | status g =>
    exact takeSent_keeps (P := InvKept s)
      (fun m t _ h => (h.then_ward (wardOf_arrive m)).then_ward (wardOf_takeSpReport m)) (.refl s)
  | read cells => exact .refl s
  | write claims => exact .takeSettingClaims b claims s

theorem InvKept.takeAnswerOf (owner : Option Block) (s : State) : InvKept s (takeAnswerOf owner s) := by
  have gathered : ∀ (g : Gather) (t : State), InvKept t (gatherOn g t) := fun g t => by
    unfold gatherOn
    split <;> exact .of_ward rfl
  cases owner with
  | none =>
    show InvKept s (takeAnswer s)
    unfold takeAnswer
    split <;> exact .of_ward rfl
  | some b =>
    show InvKept s (takeOwnerAnswer b s)
    unfold takeOwnerAnswer
    (repeat' split)
    · exact .refl s
    · exact (InvKept.ownerEvent b _ s).trans (gathered _ _)
    · exact .refl s

theorem InvKept.restartPart (b : Block) (s : State) : InvKept s (restartPart b s) := by
  cases b with
  | gsc => exact .of_ward wardOf_restartGsc
  | cwu => exact .restartCwu s
  | ach | lsq | zdu => exact .refl s

theorem InvKept.takePartDone (b : Block) (s : State) : InvKept s (takePartDone b s) := by
  unfold Machine.takePartDone
  (repeat' split) <;> exact .of_ward rfl

theorem InvKept.takeUnknown (code : Byte) (tail : List Byte) (s : State) : InvKept s (takeUnknown code tail s) := by
  unfold Machine.takeUnknown
  split <;> exact .of_ward rfl

/-! ### The reset line -/

/-- The loops replaced by others of the same ties. -/
theorem wardOf_loops {ls : Table Loop Config.loops} (h : ls.map Loop.tie = s.cwu.loops.map Loop.tie) :
    wardOf { s with cwu := { s.cwu with loops := ls } } = wardOf s :=
  congrArg (fun x => (s.zdu, keysOf s, s.cwu.hits, (x, s.cwu.cracks.map Crack.tie), rangeOf s)) h

/-- The line-closed flags play no part in the invariants. -/
theorem wardOf_readLoopInputs (s : State) : wardOf (readLoopInputs s) = wardOf s := by
  have hl : (readLoopInputs s).cwu.loops.map Loop.tie = s.cwu.loops.map Loop.tie := Table.ext_get fun l => by
    rw [Table.get_map, Table.get_map, readLoopInputs_get]
    rfl
  exact wardOf_loops hl

theorem InvKept.takeResetRelease (s : State) : InvKept s (takeResetRelease s) := by
  unfold Machine.takeResetRelease
  split
  · exact .of_ward (wardOf_readLoopInputs _)
  · exact .refl s

/-- Reset leaves every loop record at its defaults, its line as its input has it. -/
theorem loop_takeDeviceReset (l : Fin Config.loops) (s : State) :
    loop l (takeDeviceReset s) = { closed := s.loopInputs.get l } := by
  simp [loop, takeDeviceReset, Cwu.reset, Table.get]

/-- The reset line makes every invariant true. -/
theorem InvKept.takeDeviceReset (s : State) : InvKept s (takeDeviceReset s) := by
  have hloops : (tiesOf (Machine.takeDeviceReset s)).1 = (tiesOf State.reset).1 := Table.ext_get fun l => by
    have h := congrArg Loop.tie (loop_takeDeviceReset l s)
    have hr := congrArg Loop.tie (reset_loop l)
    exact (Table.get_map _ _ l).trans (h.trans (hr.symm.trans (Table.get_map _ _ l).symm))
  have hgsc : (Machine.takeDeviceReset s).gsc = State.reset.gsc := rfl
  have hcracks : (Machine.takeDeviceReset s).cwu.cracks = State.reset.cwu.cracks := rfl
  have hkeys : keysOf (Machine.takeDeviceReset s) = keysOf State.reset := by simp only [keysOf, hgsc]
  have hties : tiesOf (Machine.takeDeviceReset s) = tiesOf State.reset :=
    Prod.ext hloops (by simp only [tiesOf, hcracks])
  have hhits : (Machine.takeDeviceReset s).cwu.hits = [] := rfl
  have hbounds : (Machine.takeDeviceReset s).zdu.boundaries = [] := rfl
  exact ⟨fun _ => deratesTrue_congr (s := State.reset) rfl reset_deratesTrue,
    fun _ => by simp [BoundariesTrue, hbounds],
    fun _ => keysTrue_congr hkeys reset_keysTrue, fun _ => by simp [HitsTrue, hhits],
    fun _ => bindingsTrue_congr hties reset_bindingsTrue,
    fun _ => ⟨Nat.le_refl 100, Nat.zero_le 4294967295⟩⟩

/-! ### Every command -/

/-- Every command keeps every invariant but the attention line's. -/
theorem exec_kept (c : Instr) (s : State) : ∃ t, exec c s = .next t ∧ InvKept s t := by
  have ward : ∀ {f : State → State}, (∀ s, wardOf (f s) = wardOf s) → ∀ s, InvKept s (f s) := fun h s => .of_ward (h s)
  cases c
  case deviceReset => exact ⟨_, rfl, .takeDeviceReset s⟩
  case resetRelease => exact ⟨_, rfl, .takeResetRelease s⟩
  case fetch n => exact ⟨_, rfl, .unlessHeld (ward (f := takeFetch n) fun _ => rfl) s⟩
  case status => exact ⟨_, rfl, .request (.noParams fun s => .asking _ s) _ s⟩
  case readAttention => exact ⟨_, rfl, .request (.noParams (ward fun _ => rfl)) _ s⟩
  case setAttention =>
    exact ⟨_, rfl, .request (fun ps => ward fun s => by unfold takeSetAttention; (repeat' split) <;> rfl) _ s⟩
  case restart => exact ⟨_, rfl, .request (.noParams .takeRestart) _ s⟩
  case setWindow => exact ⟨_, rfl, .request .takeSetWindow _ s⟩
  case readData => exact ⟨_, rfl, .request (.oneByte .takeReadData) _ s⟩
  case writeData => exact ⟨_, rfl, .request .takeWriteData _ s⟩
  case amendOn =>
    exact ⟨_, rfl, .request (.noParams (ward fun s => by unfold takeAmendOn; split <;> rfl)) _ s⟩
  case amendOff => exact ⟨_, rfl, .request (.noParams (ward fun _ => rfl)) _ s⟩
  case find => exact ⟨_, rfl, .request (fun ps => ward fun _ => wardOf_takeFind ps) _ s⟩
  case unknown code tail => exact ⟨_, rfl, .unlessHeld (.takeUnknown code tail) s⟩
  case answerToSlot owner => exact ⟨_, rfl, .arrival (.takeAnswerOf owner) s⟩
  case restartNotice b =>
    exact ⟨_, rfl, .arrival (fun s => (InvKept.restartPart b s).then_ward (wardOf_send _)) s⟩
  case restartPartDone b => exact ⟨_, rfl, .arrival (.takePartDone b) s⟩
  case loopLineChange l b => exact ⟨_, rfl, .takeLineChange l b s⟩
  case attentionEventReport c => exact ⟨_, rfl, .arrival (ward fun _ => wardOf_takeSpReport (.attentionEventReport c)) s⟩
  case conditionEdgeReport c e =>
    exact ⟨_, rfl, .arrival (ward fun _ => wardOf_takeSpReport (.conditionEdgeReport c e)) s⟩
  case linkReport l lost => exact ⟨_, rfl, .arrival (ward fun _ => wardOf_takeSpReport (.linkReport l lost)) s⟩
  case overEnter z => exact ⟨_, rfl, .arrival (.takeOverEnter z) s⟩
  case overLeave z => exact ⟨_, rfl, .arrival (.takeOverLeave z) s⟩
  case faultEnter z => exact ⟨_, rfl, .arrival (.takeFaultEnter z) s⟩
  case faultLeave z => exact ⟨_, rfl, .arrival (.takeFaultLeave z) s⟩
  case crackDerate z v n => exact ⟨_, rfl, .arrival (.takeCrackDerate z v n) s⟩
  case loadMask set => exact ⟨_, rfl, .arrival (.takeLoadMask set) s⟩
  case rezone => exact ⟨_, rfl, .request .takeRezone _ s⟩
  case setZoneDerate => exact ⟨_, rfl, .request .takeSetZoneDerate _ s⟩
  case swept o => exact ⟨_, rfl, .arrival (.onRezone _) s⟩
  case sweepDone o => exact ⟨_, rfl, .arrival (.takeSweepDone o) s⟩
  case setScale => exact ⟨_, rfl, .request (.oneByte .takeSetScale) _ s⟩
  case trimUp => exact ⟨_, rfl, .request (.noParams .takeTrimUp) _ s⟩
  case trimDown => exact ⟨_, rfl, .request (.noParams .takeTrimDown) _ s⟩
  case clearPasses => exact ⟨_, rfl, .request (.noParams .takeClearPasses) _ s⟩
  case dwellTimerExpiry => exact ⟨_, rfl, .unlessHeld .takeDwellExpiry s⟩
  case openGauge => exact ⟨_, rfl, .request .parseOpenGauge _ s⟩
  case retireGauge => exact ⟨_, rfl, .request (.oneWord (.indexed .takeRetireGauge)) _ s⟩
  case reading k ch q v => exact ⟨_, rfl, .arrival (.takeReading k ch q v) s⟩
  case enableLoop => exact ⟨_, rfl, .request (.oneByte (.indexed .takeEnableLoop)) _ s⟩
  case rearmLoop => exact ⟨_, rfl, .request (.oneByte (.indexed .takeRearmLoop)) _ s⟩
  case disableLoop => exact ⟨_, rfl, .request (.oneByte (.indexed .takeDisableLoop)) _ s⟩
  case openCrack => exact ⟨_, rfl, .request .parseOpenCrack _ s⟩
  case confirmCrack => exact ⟨_, rfl, .request (.oneByte (.indexed .takeConfirmCrack)) _ s⟩
  case arrestCrack => exact ⟨_, rfl, .request (.oneByte (.indexed .takeArrestCrack)) _ s⟩
  case retireCrack => exact ⟨_, rfl, .request (.oneByte (.indexed .takeRetireCrack)) _ s⟩
  case confirmTimerExpiry l => exact ⟨_, rfl, .unlessHeld (.takeConfirmTimerExpiry l) s⟩
  case hit u => exact ⟨_, rfl, .unlessHeld (.takeHit u) s⟩
  case cwuIntervalClose n => exact ⟨_, rfl, .arrival .takeCwuClose s⟩
  case arm | start | halt | stopNow | resume | rest | disarm | closeInterval | commitBank | swapBank | cancelSwap =>
    exact ⟨_, rfl, .request (.noParams (ward fun _ => by simp)) _ s⟩
  case zero => exact ⟨_, rfl, .request (.oneWord fun n => ward fun _ => wardOf_takeZero n) _ s⟩
  case enableActuator | disableActuator | clearFault =>
    exact ⟨_, rfl, .request (.oneByte (.indexed fun _ => ward fun _ => by simp)) _ s⟩
  case suspendGauge | watchGauge | shunt =>
    exact ⟨_, rfl, .request (.oneWord (.indexed fun _ => ward fun _ => by simp)) _ s⟩
  case report | reportTimerExpiry | settleTimerExpiry | freeTimerExpiry | scanFrame | scannerLinkTimerExpiry =>
    exact ⟨_, rfl, .unlessHeld (ward fun _ => by simp) s⟩
  all_goals exact ⟨_, rfl, .arrival (ward fun _ => by simp) s⟩

/-- What is kept by every `InvKept` and does not read the queue, every step keeps. -/
theorem step_invKept {P : State → Prop} (hq : ∀ s rest, P s → P { s with pending := rest })
    (hk : ∀ s t, InvKept s t → P s → P t) (h : P s) (ht : step s = .next t) : P t :=
  step_keeps hq (fun c s t h ht => by
    obtain ⟨u, hu, kept⟩ := exec_kept c s
    cases hu.symm.trans ht
    exact hk s t kept h) h ht

/-- Settles O27: the ZDU's events keep the derates true, every other command leaves them. -/
theorem effectiveDeratesStayTheLeast : Obligations.EffectiveDeratesStayTheLeast := fun _ _ h ht =>
  step_invKept (fun _ _ h => h) (fun _ _ k => k.derates) h ht

/-- Settles O46: opening, retiring and key writes keep the map true to the records, every other command leaves the keys. -/
theorem keysStayTrue : Obligations.KeysStayTrue := fun _ _ h ht =>
  step_invKept (fun _ _ h => h) (fun _ _ k => k.keys) h ht

/-- Settles O53: the hits and the bindings, by the events of the Crack Watch. -/
theorem crackWatchStaysTrue : Obligations.CrackWatchStaysTrue :=
  ⟨fun _ _ h ht => step_invKept (fun _ _ h => h) (fun _ _ k => k.hits) h ht,
    fun _ _ h ht => step_invKept (fun _ _ h => h) (fun _ _ k => k.bindings) h ht⟩

/-- The zone of a station, counted in the boundary list. -/
theorem decodeStation_eq (x : Nat) (s : State) :
    decodeStation x s = (s.zdu.boundaries.filter fun b => decide (b ≤ x)).length :=
  List.countP_eq_length_filter

/-- Settles O18: the count of the boundaries at or below, and the boundaries through every step. -/
theorem stationDecode : Obligations.StationDecode := by
  refine ⟨decodeStation_eq, fun x s => ?_, fun s t h ht => step_invKept (fun _ _ h => h) (fun _ _ k => k.bounds) h ht,
    fun s hb => ?_⟩
  · rw [decodeStation_eq]
    exact Nat.lt_succ_of_le (List.length_filter_le _ _)
  · simp [decodeStation_eq, hb]

end Sys2Proof.Machine
end

section
/-! SET WINDOW and AMEND (R184, R190), and FIND (R192, R193). -/
namespace Sys2Proof.Machine

variable {s : State}

/-! ### SET WINDOW -/

/-- The unmasked fields of a span from `f0` to `f1`. -/
def spanFields (f0 f1 : Nat) (mask : BitVec 32) : List Nat :=
  ((List.range (f1 - f0 + 1)).filter fun i => mask.getLsbD i).map fun i => f0 + i

/-- The checks of a window after its length and codes. -/
theorem windowOk_iff {t : WTable} {a b f0 f1 : Nat} {mask : BitVec 32} :
    windowOk t a b f0 f1 mask = true ↔
      a ≤ b ∧ b < t.records ∧ f0 ≤ f1 ∧ f1 < t.fields ∧ f1 - f0 ≤ 31 ∧ spanFields f0 f1 mask ≠ [] := by
  have hany : (List.range (f1 - f0 + 1)).any (fun i => mask.getLsbD i) = true ↔ spanFields f0 f1 mask ≠ [] := by
    simp [spanFields, List.filter_eq_nil_iff]
  simp only [windowOk, Bool.and_eq_true, decide_eq_true_eq, hany, and_assoc]

/-- The window set: its pointer on the first record at the lowest unmasked field. -/
theorem placeWindow_eq (t : WTable) (a b f0 f1 : Nat) (o : ScanOrder) (mask : BitVec 32) :
    placeWindow t a b f0 f1 o mask =
      { table := t, firstRec := a, lastRec := b, firstField := f0, lastField := f1, order := o, mask := mask,
        ptrRec := a, ptrField := (spanFields f0 f1 mask).headD f0 } := rfl

section
variable {tb a0 a1 b0 b1 f0 f1 ob m0 m1 m2 m3 : Byte} {t : WTable} {o : ScanOrder}

/-- SET WINDOW whose checks pass. -/
theorem takeSetWindow_done (ht : tableOf tb = some t) (ho : scanOrderOf ob = some o)
    (hok : windowOk t (u16 a0 a1) (u16 b0 b1) f0.toNat f1.toNat (BitVec.ofNat 32 (u32 m0 m1 m2 m3)) = true) :
    takeSetWindow [tb, a0, a1, b0, b1, f0, f1, ob, m0, m1, m2, m3] s =
      let w := placeWindow t (u16 a0 a1) (u16 b0 b1) f0.toNat f1.toNat o (BitVec.ofNat 32 (u32 m0 m1 m2 m3))
      done (setTheWindow w s) (le16 w.cellCount) := by
  simp only [takeSetWindow, ht, ho]
  exact if_pos hok

/-- SET WINDOW with a table, order, rectangle or mask that fails its check. -/
theorem takeSetWindow_range (h : tableOf tb = none ∨ scanOrderOf ob = none ∨ ∃ t, tableOf tb = some t ∧
      windowOk t (u16 a0 a1) (u16 b0 b1) f0.toNat f1.toNat (BitVec.ofNat 32 (u32 m0 m1 m2 m3)) = false) :
    takeSetWindow [tb, a0, a1, b0, b1, f0, f1, ob, m0, m1, m2, m3] s = refuse s .range := by
  simp only [takeSetWindow]
  split
  · next t o ht ho =>
    refine if_neg ?_
    rcases h with h | h | ⟨t', ht', hok⟩
    · rw [h] at ht; cases ht
    · rw [h] at ho; cases ho
    · cases ht'.symm.trans ht
      simp [hok]
  · rfl

end

/-- AMEND ON with a window. -/
theorem takeAmendOn_done (h : s.sp.window ≠ none) : takeAmendOn s = done (onSp (fun sp => { sp with amend := true }) s) :=
  if_pos (Option.isSome_iff_ne_none.2 h)

/-- AMEND ON without one. -/
theorem takeAmendOn_state (h : s.sp.window = none) : takeAmendOn s = refuse s .state := if_neg (by simp [h])

/-- Settles O12: the outcome of each request at SP, by the checks of the window and the window set. -/
theorem setWindowAndAmend : Obligations.SetWindowAndAmend := by
  refine ⟨fun tb a0 a1 b0 b1 f0 f1 ob m0 m1 m2 m3 s hp => ?window, fun s hp => ⟨fun hw => ?on, fun hw => ?without, ?off⟩⟩
  case window =>
    intro mask fields fits placed
    have fits_iff : ∀ t, windowOk t (u16 a0 a1) (u16 b0 b1) f0.toNat f1.toNat mask = true ↔ fits t :=
      fun t => windowOk_iff
    refine ⟨fun t o ht ho hok => ?_, fun h => ?_⟩
    · exact hostRequest_answered hp rfl rfl (takeSetWindow_done ht ho ((fits_iff t).2 hok))
    · refine hostRequest_answered hp rfl rfl (takeSetWindow_range (h.imp_right (Or.imp_right ?_)))
      rintro ⟨t, ht, hn⟩
      exact ⟨t, ht, Bool.eq_false_iff.2 fun hok => hn ((fits_iff t).1 hok)⟩
  case on => exact hostRequestKeepingAmend_answered hp rfl rfl (takeAmendOn_done hw)
  case without => exact hostRequestKeepingAmend_answered hp rfl rfl (takeAmendOn_state hw)
  case off => exact plainRequest_done hp rfl rfl

/-! ### FIND -/

/-- A search that touches nothing ends at the first record that matches. -/
theorem search_untouched (q : Lookup) (h : q.relation = .none ∨ q.table.isInterval q.field = false) (rs : List Nat) :
    q.search rs s = (s, rs.find? fun r => q.holds r s) := by
  have untouched : ∀ r, (if q.relation = .none then s else touchCell q.table r q.field s) = s := fun r => by
    rcases h with h | h
    · exact if_pos h
    · simp [touchCell, h]
  induction rs with
  | nil => rfl
  | cons r rs ih =>
    rw [Lookup.search, List.find?_cons, untouched r]
    cases hr : q.holds r s with
    | true => rfl
    | false => exact ih

/-- The checks of FIND. -/
theorem findOk_iff {t : WTable} {n start field : Nat} {set zone reserved : Byte} {rel : Relation} :
    findOk t n set zone start field rel reserved = true ↔ set.toNat ≠ 0 ∧ set.toNat < 2 ^ n ∧
      (zone = 0xFF ∨ (t ≠ .zones ∧ zone.toNat < 32)) ∧ start < t.records ∧ (rel = .none ∨ field < t.fields) ∧
      reserved = 0 := by
  have hz : Config.zones = 32 := rfl
  have hset : set ≠ 0 ↔ set.toNat ≠ 0 := not_congr (BitVec.toNat_inj (x := set) (y := 0)).symm
  simp only [findOk, Bool.and_eq_true, Bool.or_eq_true, bne_iff_ne, beq_iff_eq, decide_eq_true_eq, hz, hset, and_assoc]

section
variable {tb set zone i0 i1 field relb v0 v1 v2 v3 reserved : Byte} {t : WTable} {rel : Relation} {n : Nat}

/-- The search a FIND's parameters ask for. -/
def lookupOf (t : WTable) (set zone field : Byte) (rel : Relation) (v : Nat) : Lookup :=
  { table := t, states := set, zone := if zone = 0xFF then none else some zone.toNat, field := field.toNat,
    relation := rel, value := BitVec.ofNat 32 v }

/-- A record matches by state, zone and field test. -/
theorem lookupOf_holds (v : Nat) (r : Nat) (s : State) :
    (lookupOf t set zone field rel v).holds r s =
      (set.getLsbD (stateNumber t r s) && (zone == 0xFF || storedZone t r s == zone.toNat) &&
        relationHolds (t.signed field.toNat) rel (windowValue (cellValue t r field.toNat s)) (BitVec.ofNat 32 v)) := by
  unfold Lookup.holds lookupOf
  by_cases hz : zone = 0xFF
  · simp [hz]
  · have : (zone == 0xFF) = false := beq_eq_false_iff_ne.2 hz
    simp only [if_neg hz, this, Bool.false_or]

/-- FIND whose checks pass. -/
theorem takeFind_done (ht : tableOf tb = some t) (hr : relationOf relb = some rel) (hn : t.states = some n)
    (hok : findOk t n set zone (u16 i0 i1) field.toNat rel reserved = true) :
    takeFind [tb, set, zone, i0, i1, field, relb, v0, v1, v2, v3, reserved] s =
      let x := (lookupOf t set zone field rel (u32 v0 v1 v2 v3)).search
        (List.range' (u16 i0 i1) (t.records - u16 i0 i1)) s
      done x.1 (le16 (x.2.getD 0xFFFF)) := by
  simp only [takeFind, ht, hr, hn]
  exact if_pos hok

/-- FIND with a table, relation or other parameter that fails its check. -/
theorem takeFind_range (h : tableOf tb = none ∨ relationOf relb = none ∨ (∃ t, tableOf tb = some t ∧ t.states = none) ∨
      ∃ t n rel, tableOf tb = some t ∧ t.states = some n ∧ relationOf relb = some rel ∧
        findOk t n set zone (u16 i0 i1) field.toNat rel reserved = false) :
    takeFind [tb, set, zone, i0, i1, field, relb, v0, v1, v2, v3, reserved] s = refuse s .range := by
  simp only [takeFind]
  split
  · next t rel ht hr =>
    split
    · next n hn =>
      refine if_neg ?_
      rcases h with h | h | ⟨t', ht', hs⟩ | ⟨t', n', rel', ht', hn', hr', hok⟩
      · rw [h] at ht; cases ht
      · rw [h] at hr; cases hr
      · cases ht'.symm.trans ht
        rw [hs] at hn; cases hn
      · cases ht'.symm.trans ht
        cases hr'.symm.trans hr
        cases hn'.symm.trans hn
        simp [hok]
    · rfl
  · rfl

end

/-- Settles O17: the search without a touch ends at the first match; a check that fails refuses. -/
theorem findAnswersTheFirstMatch : Obligations.FindAnswersTheFirstMatch := by
  intro tb set zone i0 i1 field relb v0 v1 v2 v3 reserved s hp frame zoneRight
  refine ⟨fun t rel n ht hr hn h0 hset hz hstart hrel hres => ?found, fun h => ?refused⟩
  case found =>
    have hok : findOk t n set zone (u16 i0 i1) field.toNat rel reserved = true :=
      findOk_iff.2 ⟨h0, hset, hz, hstart, hrel.imp_right And.left, hres⟩
    refine hostRequest_answered hp rfl rfl ((takeFind_done ht hr hn hok).trans ?_)
    rw [search_untouched (lookupOf t set zone field rel (u32 v0 v1 v2 v3)) (hrel.imp_right And.right)]
    simp only [lookupOf_holds]
    rfl
  case refused =>
    refine hostRequest_answered hp rfl rfl (takeFind_range ?_)
    refine h.imp_right (Or.imp_right (Or.imp_right ?_))
    rintro ⟨t, n, rel, ht, hn, hr, hbad⟩
    refine ⟨t, n, rel, ht, hn, hr, Bool.eq_false_iff.2 fun hok => ?_⟩
    obtain ⟨h0, hset, hz, hstart, hrel, hres⟩ := findOk_iff.1 hok
    rcases hbad with h | h | h | h | ⟨h, h'⟩ | h
    · exact h0 h
    · omega
    · exact h hz
    · omega
    · rcases hrel with hrel | hrel
      · exact h hrel
      · omega
    · exact h hres

end Sys2Proof.Machine
end

section
/-! The lazy transfer on reads (R120, R121): what reading a cell, a list of cells, or a search touches. -/
namespace Sys2Proof.Machine

variable {s : State} {t : WTable}

/-! ### Touching a cell -/

/-- The interval fields are fields 25 to 32 of GAUGES. -/
theorem isInterval_iff {f : Nat} : t.isInterval f = true ↔ t = .gauges ∧ 25 ≤ f ∧ f ≤ 32 := by
  simp [WTable.isInterval]

/-- A touch changes the gauge records alone. -/
theorem touchCell_eq (t : WTable) (r f : Nat) (s : State) :
    touchCell t r f s = { s with gsc := { s.gsc with gauges := (touchCell t r f s).gsc.gauges } } := by
  unfold touchCell
  split <;> rfl

/-- The record of an interval field read is touched, every other as it was. -/
theorem gauge_touchCell (t : WTable) (r f : Nat) (s : State) (i : Fin Config.gauges) :
    gauge i (touchCell t r f s) =
      if t = .gauges ∧ r = i.val ∧ 25 ≤ f ∧ f ≤ 32 then (gauge i s).touch s.gsc.interval else gauge i s := by
  by_cases h : t.isInterval f = true
  · obtain ⟨rfl, h1, h2⟩ := isInterval_iff.1 h
    have hg : gauge i (touchCell .gauges r f s) =
        (s.gsc.gauges.setD r ((s.gsc.gauges.getD r {}).touch s.gsc.interval)).getD i.val {} := by
      rw [Table.getD_val, touchCell, if_pos h]
      rfl
    rw [hg, Table.getD_setD]
    by_cases hr : i.val = r
    · subst hr
      simp [h1, h2, gauge]
    · rw [if_neg fun e => hr e.1, if_neg fun e => hr e.2.1.symm, Table.getD_val]
      rfl
  · rw [touchCell, if_neg h, if_neg fun e => h (isInterval_iff.2 ⟨e.1, e.2.2⟩)]

/-- The interval number stands through a touch. -/
@[simp] theorem touchCell_interval (t : WTable) (r f : Nat) (s : State) :
    (touchCell t r f s).gsc.interval = s.gsc.interval := by rw [touchCell_eq]

/-- Cell by cell: the touch, then the value and mark of the record touched. -/
theorem readCells_cons (t : WTable) (r f : Nat) (rest : List (Nat × Nat)) (s : State) :
    readCells t ((r, f) :: rest) s =
      ((readCells t rest (touchCell t r f s)).1,
        { value := windowValue (cellValue t r f (touchCell t r f s)), mark := vacancyMark t r (touchCell t r f s) } ::
          (readCells t rest (touchCell t r f s)).2) := rfl

/-- Reading cells changes the gauge records alone. -/
theorem readCells_eq (t : WTable) (cells : List (Nat × Nat)) (s : State) :
    (readCells t cells s).1 = { s with gsc := { s.gsc with gauges := (readCells t cells s).1.gsc.gauges } } := by
  induction cells generalizing s with
  | nil => rfl
  | cons c cells ih =>
    rw [readCells_cons]
    refine (ih (touchCell t c.1 c.2 s)).trans ?_
    rw [touchCell_eq]

/-- Reading cells of no interval field changes nothing. -/
theorem readCells_untouched (t : WTable) (cells : List (Nat × Nat)) (s : State)
    (h : ∀ c ∈ cells, t.isInterval c.2 = false) :
    readCells t cells s =
      (s, cells.map fun c => { value := windowValue (cellValue t c.1 c.2 s), mark := vacancyMark t c.1 s }) := by
  induction cells with
  | nil => rfl
  | cons c cells ih =>
    have hc : touchCell t c.1 c.2 s = s := if_neg (by simp [h c List.mem_cons_self])
    rw [readCells_cons, hc, ih fun x hx => h x (List.mem_cons_of_mem _ hx)]
    rfl

/-- The records a read leaves. -/
theorem gauge_readCells (t : WTable) (cells : List (Nat × Nat)) (s : State) (i : Fin Config.gauges) :
    gauge i (readCells t cells s).1 =
      if t = .gauges ∧ ∃ c ∈ cells, c.1 = i.val ∧ 25 ≤ c.2 ∧ c.2 ≤ 32 then (gauge i s).touch s.gsc.interval
      else gauge i s := by
  induction cells generalizing s with
  | nil => simp [readCells]
  | cons c cells ih =>
    rw [readCells_cons]
    refine (ih (touchCell t c.1 c.2 s)).trans ?_
    rw [gauge_touchCell, touchCell_interval]
    by_cases ht : t = .gauges
    · simp only [ht, true_and, List.exists_mem_cons_iff]
      by_cases h1 : c.1 = i.val ∧ 25 ≤ c.2 ∧ c.2 ≤ 32 <;>
        by_cases h2 : ∃ d ∈ cells, d.1 = i.val ∧ 25 ≤ d.2 ∧ d.2 ≤ 32 <;> simp [h1, h2]
    · simp [ht]

/-! ### A search that touches -/

/-- Whether a gauge record matches hangs on that record alone. -/
theorem holds_congr_gauges {q : Lookup} (hq : q.table = .gauges) {u : State} {r : Nat}
    (h : u.gsc.gauges.getD r {} = s.gsc.gauges.getD r {}) : q.holds r u = q.holds r s := by
  simp only [Lookup.holds, hq, stateNumber, storedZone, cellValue, shownGauge, h]

/-- A search with an interval test: it touches each record up to the match, and each is tested as touched. -/
theorem search_touching (q : Lookup) (hq : q.table = .gauges) (hr : q.relation ≠ .none) (hf : 25 ≤ q.field ∧ q.field ≤ 32)
    (m a : Nat) (hm : a + m ≤ 512) (s : State) :
    let x := q.search (List.range' a m) s
    x.1 = { s with gsc := { s.gsc with gauges := x.1.gsc.gauges } } ∧
    (∀ i, gauge i x.1 = if a ≤ i.val ∧ i.val < a + m ∧ (∀ r, x.2 = some r → i.val ≤ r) then
      (gauge i s).touch s.gsc.interval else gauge i s) ∧
    (∀ r, x.2 = some r → a ≤ r ∧ r < a + m ∧ q.holds r x.1 = true) ∧
    ∀ r, a ≤ r → r < a + m → (∀ k, x.2 = some k → r < k) → q.holds r x.1 = false := by
  induction m generalizing a s with
  | zero =>
    refine ⟨rfl, fun i => ?_, fun r h => (nomatch h), fun r h1 h2 => by omega⟩
    exact (if_neg fun h => by omega).symm
  | succ m ih =>
    have htouch : ∀ i, gauge i (touchCell q.table a q.field s) =
        if i.val = a then (gauge i s).touch s.gsc.interval else gauge i s := fun i => by
      rw [gauge_touchCell]
      exact if_congr ⟨fun h => h.2.1.symm, fun h => ⟨hq, h.symm, hf⟩⟩ rfl rfl
    have hstep : q.search (List.range' a (m + 1)) s =
        if q.holds a (touchCell q.table a q.field s) then (touchCell q.table a q.field s, some a)
        else q.search (List.range' (a + 1) m) (touchCell q.table a q.field s) := by
      rw [List.range'_succ, Lookup.search, if_neg hr]
    rw [hstep]
    by_cases hhit : q.holds a (touchCell q.table a q.field s) = true
    · rw [if_pos hhit]
      refine ⟨touchCell_eq _ _ _ _, fun i => ?_, fun r h => ?_, fun r h1 _ h3 => ?_⟩
      · rw [htouch]
        refine if_congr ⟨fun h => ⟨by omega, by omega, fun r hr => ?_⟩, fun h => ?_⟩ rfl rfl
        · cases hr; omega
        · have := h.2.2 a rfl
          omega
      · cases h
        exact ⟨Nat.le_refl _, by omega, hhit⟩
      · have := h3 a rfl
        omega
    · rw [if_neg hhit]
      obtain ⟨hwhole, hgauge, hfound, hmiss⟩ := ih (a + 1) (by omega) (touchCell q.table a q.field s)
      refine ⟨?_, fun i => ?_, fun r h => ?_, fun r h1 h2 h3 => ?_⟩
      · dsimp only at hwhole ⊢
        rw [hwhole, touchCell_eq]
      · rw [hgauge, htouch, touchCell_interval]
        by_cases hi : i.val = a
        · rw [if_neg (fun h => by omega), if_pos hi, if_pos]
          refine ⟨by omega, by omega, fun r h => ?_⟩
          have := (hfound r h).1
          omega
        · rw [if_neg hi]
          exact if_congr ⟨fun h => ⟨by omega, by omega, h.2.2⟩, fun h => ⟨by omega, by omega, h.2.2⟩⟩ rfl rfl
      · obtain ⟨h1, h2, h3⟩ := hfound r h
        exact ⟨by omega, by omega, h3⟩
      · by_cases hra : r = a
        · subst hra
          have ha : r < 512 := by omega
          have hsame : (q.search (List.range' (r + 1) m) (touchCell q.table r q.field s)).1.gsc.gauges.getD r {} =
              (touchCell q.table r q.field s).gsc.gauges.getD r {} := by
            have h := hgauge ⟨r, ha⟩
            rw [if_neg (fun h => by have := h.1; simp at this)] at h
            have e : ∀ u : State, u.gsc.gauges.getD r {} = gauge ⟨r, ha⟩ u := fun u =>
              Table.getD_val u.gsc.gauges ⟨r, ha⟩ {}
            rw [e, e, h]
          rw [holds_congr_gauges hq hsame]
          exact Bool.eq_false_iff.2 hhit
        · exact hmiss r (by omega) (by omega) h3

/-- A touch by the record's state and number. -/
theorem touch_same {g : Gauge} {n : BitVec 16} (h : g.state = .vacant ∨ g.live.number = n) : g.touch n = g := if_pos h

theorem touch_moves {g : Gauge} {n : BitVec 16} (hv : g.state ≠ .vacant) (hn : g.live.number ≠ n) :
    g.touch n = { g with held := g.live, live := { exceed := 0, max := none, min := none, number := n } } :=
  if_neg (not_or.2 ⟨hv, hn⟩)

/-- Settles O14: a touch, the fields that have one, the cells read, and a search with an interval test. -/
theorem lazyTransferOnReads : Obligations.LazyTransferOnReads := by
  refine ⟨fun g n => ⟨touch_same, touch_moves⟩, fun t f => isInterval_iff,
    ⟨readCells_untouched, fun s => rfl, fun i f rest s => ?cell, fun t cells s =>
      ⟨readCells_eq t cells s, gauge_readCells t cells s⟩⟩,
    fun set zone i0 i1 field relb v0 v1 v2 v3 rel s hp hrel hne hf1 hf2 h0 hset hz hstart => ?find⟩
  case cell =>
    intro touched s1 later
    have htouch : touchCell .gauges i.val f s = s1 := by
      show (if WTable.gauges.isInterval f then _ else s) = if 25 ≤ f ∧ f ≤ 32 then touched else s
      refine if_congr (isInterval_iff.trans (and_iff_right rfl)) ?_ rfl
      simp [touched, onGsc, gauge]
    rw [readCells_cons, htouch]
  case find =>
    have hok : findOk .gauges 7 set zone (u16 i0 i1) field.toNat rel 0 = true :=
      findOk_iff.2 ⟨h0, hset, hz.imp_right fun h => ⟨by decide, h⟩, hstart,
        .inr (show field.toNat < 35 by omega), rfl⟩
    have taken := takeFind_done (tb := 0) (v0 := v0) (v1 := v1) (v2 := v2) (v3 := v3) (s := atOwner 0x15 s) (t := .gauges)
      rfl hrel rfl hok
    obtain ⟨hwhole, hgauge, hfound, hmiss⟩ := search_touching (lookupOf .gauges set zone field rel (u32 v0 v1 v2 v3)) rfl hne
      ⟨hf1, hf2⟩ (512 - u16 i0 i1) (u16 i0 i1) (by omega) (atOwner 0x15 s)
    generalize hx : (lookupOf .gauges set zone field rel (u32 v0 v1 v2 v3)).search
      (List.range' (u16 i0 i1) (512 - u16 i0 i1)) (atOwner 0x15 s) = x at hwhole hgauge hfound hmiss
    let u : State := { s with gsc := { s.gsc with gauges := x.1.gsc.gauges } }
    have hhit : ∀ r, (lookupOf .gauges set zone field rel (u32 v0 v1 v2 v3)).holds r x.1 =
        (lookupOf .gauges set zone field rel (u32 v0 v1 v2 v3)).holds r u := fun r => holds_congr_gauges rfl rfl
    simp only [hhit, lookupOf_holds] at hfound hmiss
    refine ⟨x.2, u, ?_, rfl, fun i => ?_, fun r h => ?_, fun r h1 h2 h3 => hmiss r h1 (by omega) h3⟩
    · refine hostRequest_answered hp rfl rfl (taken.trans ?_)
      refine (congrArg (fun x : State × Option Nat => done x.1 (le16 (x.2.getD 0xFFFF))) hx).trans ?_
      exact congrArg (fun v => done v (le16 (x.2.getD 0xFFFF))) hwhole
    · refine (hgauge i).trans (if_congr ⟨fun h => ⟨h.1, h.2.2⟩, fun h => ⟨h.1, ?_, h.2⟩⟩ rfl rfl)
      have : i.val < 512 := i.isLt
      omega
    · obtain ⟨h1, h2, h3⟩ := hfound r h
      exact ⟨h1, by omega, h3⟩

end Sys2Proof.Machine
end

section
/-! The cells of a window in sequence order (R185), and READ DATA (R186, R187). -/
namespace Sys2Proof.Machine

variable {s : State}

/-! ### The grid of records and fields -/

section
variable {α β γ : Type} (g : α → β → γ)

/-- Every outer entry with every inner one, the inner ones running first. -/
def gridOf (xs : List α) (ys : List β) : List γ := xs.flatMap fun x => ys.map (g x)

theorem length_gridOf (xs : List α) (ys : List β) : (gridOf g xs ys).length = xs.length * ys.length := by
  induction xs with
  | nil => simp [gridOf]
  | cons x xs ih =>
    have : gridOf g (x :: xs) ys = ys.map (g x) ++ gridOf g xs ys := by simp [gridOf]
    rw [this, List.length_append, List.length_map, ih, List.length_cons, Nat.succ_mul, Nat.add_comm]

/-- The entry at row `i`, place `j`. -/
theorem getElem?_gridOf (xs : List α) (ys : List β) (i j : Nat) (hj : j < ys.length) :
    (gridOf g xs ys)[i * ys.length + j]? = xs[i]?.bind fun x => ys[j]?.map (g x) := by
  induction xs generalizing i with
  | nil => simp [gridOf]
  | cons x xs ih =>
    have hcons : gridOf g (x :: xs) ys = ys.map (g x) ++ gridOf g xs ys := by simp [gridOf]
    rw [hcons]
    cases i with
    | zero =>
      rw [List.getElem?_append_left (by simpa using hj)]
      simp
    | succ i =>
      have hlen : (ys.map (g x)).length = ys.length := List.length_map _
      have hi : (i + 1) * ys.length + j = ys.length + (i * ys.length + j) := by rw [Nat.succ_mul]; omega
      rw [hi, List.getElem?_append_right (by omega), hlen, Nat.add_sub_cancel_left, ih]
      rfl

/-- `next` is what follows place `j` of a list: the next entry, or the first with the mark of a wrap. -/
def Follows (ys : List β) (j : Nat) (next : β × Bool) : Prop :=
  if j + 1 < ys.length then ys[j + 1]? = some next.1 ∧ next.2 = false else ys[0]? = some next.1 ∧ next.2 = true

/-- In the grid the inner entry moves on, and with its wrap the outer one. -/
theorem gridOf_next {xs : List α} {ys : List β} {k : Nat} {x : α} {y : β} {x' : α × Bool} {y' : β × Bool}
    (hk : (gridOf g xs ys)[k]? = some (g x y)) (hx : ∀ i, k = i * ys.length + k % ys.length → xs[i]? = some x →
      Follows xs i x') (hy : ys[k % ys.length]? = some y → Follows ys (k % ys.length) y')
    (hinj : ∀ a b c d, g a b = g c d → a = c ∧ b = d) :
    (gridOf g xs ys)[(k + 1) % (gridOf g xs ys).length]? = some (g (if y'.2 then x'.1 else x) y'.1) := by
  have hlen := length_gridOf g xs ys
  have hklt : k < xs.length * ys.length := by
    rw [← hlen]
    exact (List.getElem?_eq_some_iff.1 hk).1
  have hypos : 0 < ys.length := Nat.pos_of_ne_zero fun h => by simp [h] at hklt
  have hjlt : k % ys.length < ys.length := Nat.mod_lt _ hypos
  have hkdiv : k = k / ys.length * ys.length + k % ys.length := by rw [Nat.mul_comm]; exact (Nat.div_add_mod _ _).symm
  have hilt : k / ys.length < xs.length := Nat.div_lt_of_lt_mul (by rw [Nat.mul_comm]; exact hklt)
  rw [hkdiv, getElem?_gridOf g xs ys _ _ hjlt] at hk
  obtain ⟨a, ha, hb⟩ := Option.bind_eq_some_iff.1 hk
  obtain ⟨b, hyb, hab⟩ := Option.map_eq_some_iff.1 hb
  obtain ⟨rfl, rfl⟩ := hinj _ _ _ _ hab
  have fx := hx _ hkdiv ha
  have fy := hy hyb
  generalize hi : k / ys.length = i at hkdiv hilt ha fx
  generalize hj : k % ys.length = j at hkdiv hjlt fy
  rw [hlen, hkdiv]
  unfold Follows at fx fy
  by_cases hj1 : j + 1 < ys.length
  · rw [if_pos hj1] at fy
    have hle : i * ys.length + ys.length ≤ xs.length * ys.length := by
      rw [← Nat.succ_mul]; exact Nat.mul_le_mul_right _ hilt
    rw [Nat.mod_eq_of_lt (by omega), Nat.add_assoc, getElem?_gridOf g xs ys _ _ hj1, ha, fy.1, fy.2]
    rfl
  · rw [if_neg hj1] at fy
    have hj' : i * ys.length + j + 1 = (i + 1) * ys.length + 0 := by rw [Nat.succ_mul]; omega
    rw [hj', fy.2]
    by_cases hi1 : i + 1 < xs.length
    · rw [if_pos hi1] at fx
      have hle : (i + 1) * ys.length + ys.length ≤ xs.length * ys.length := by
        rw [← Nat.succ_mul]; exact Nat.mul_le_mul_right _ hi1
      rw [Nat.mod_eq_of_lt (by omega), getElem?_gridOf g xs ys _ _ hypos, fx.1, fy.1]
      rfl
    · rw [if_neg hi1] at fx
      have hi' : i + 1 = xs.length := by omega
      have h0 : ((i + 1) * ys.length + 0) % (xs.length * ys.length) = 0 * ys.length + 0 := by simp [hi']
      rw [h0, getElem?_gridOf g xs ys _ _ hypos, fx.1, fy.1]
      rfl

end

/-! ### The pointer (R185) -/

/-- In an ascending list the first entry above an entry is the one after it. -/
theorem find?_above {ys : List Nat} (h : ys.Pairwise (· < ·)) {j y : Nat} (hj : ys[j]? = some y) :
    ys.find? (fun f => decide (y < f)) = ys[j + 1]? := by
  induction ys generalizing j with
  | nil => cases hj
  | cons a ys ih =>
    obtain ⟨ha, hys⟩ := List.pairwise_cons.1 h
    cases j with
    | zero =>
      cases hj
      rw [List.find?_cons_of_neg (by simp)]
      cases ys with
      | nil => rfl
      | cons b ys => rw [List.find?_cons_of_pos (by simpa using ha b List.mem_cons_self)]; rfl
    | succ j =>
      have hy : a < y := ha y (List.mem_of_getElem? hj)
      rw [List.find?_cons_of_neg (by simp; omega)]
      exact ih hys hj

/-- The records of a window. -/
def Window.records (w : Window) : List Nat := List.range' w.firstRec (w.lastRec - w.firstRec + 1)

/-- The cells of a window in its order. -/
def Window.sequence (w : Window) : List (Nat × Nat) :=
  match w.order with
  | .record => gridOf (fun r f => (r, f)) w.records w.unmasked
  | .field => gridOf (fun f r => (r, f)) w.unmasked w.records

theorem unmasked_ascending (w : Window) : w.unmasked.Pairwise (· < ·) := by
  refine List.pairwise_map.2 (((List.pairwise_lt_range).filter _).imp fun h => ?_)
  omega

/-- The field after the pointer's, in its list. -/
theorem fieldAfter_follows {w : Window} {j : Nat} (hj : w.unmasked[j]? = some w.ptrField) :
    Follows w.unmasked j w.fieldAfter := by
  have hfind := find?_above (unmasked_ascending w) hj
  have hlt := (List.getElem?_eq_some_iff.1 hj).1
  unfold Follows Window.fieldAfter
  rw [hfind]
  split
  · next h => simp [List.getElem?_eq_getElem h]
  · next h =>
    rw [List.getElem?_eq_none (Nat.not_lt.1 h)]
    refine ⟨?_, rfl⟩
    have : w.unmasked ≠ [] := fun e => by simp [e] at hlt
    obtain ⟨a, l, e⟩ := List.exists_cons_of_ne_nil this
    simp [Window.firstCellField, e]

/-- The record after the pointer's, in its list. -/
theorem recordAfter_follows {w : Window} {i : Nat} (hi : w.records[i]? = some w.ptrRec) :
    Follows w.records i w.recordAfter := by
  obtain ⟨hlt, hval⟩ := List.getElem?_eq_some_iff.1 hi
  have hlen : w.records.length = w.lastRec - w.firstRec + 1 := List.length_range'
  have hptr : w.firstRec + i = w.ptrRec := by
    rw [← hval]
    simp [Window.records]
  unfold Follows Window.recordAfter
  rw [hlen] at hlt ⊢
  by_cases h : i + 1 < w.lastRec - w.firstRec + 1
  · rw [if_pos h, if_pos (by omega)]
    refine ⟨?_, rfl⟩
    rw [List.getElem?_eq_getElem (by omega)]
    simp [Window.records]
    omega
  · rw [if_neg h, if_neg (by omega)]
    refine ⟨?_, rfl⟩
    rw [List.getElem?_eq_getElem (by omega)]
    simp [Window.records]

/-- The pointer's move is the next cell of the sequence, from the last to the first. -/
theorem sequence_advance {w : Window} {k : Nat} (hk : w.sequence[k]? = some (w.ptrRec, w.ptrField)) :
    w.sequence[(k + 1) % w.sequence.length]? = some (w.advance.ptrRec, w.advance.ptrField) := by
  unfold Window.sequence Window.advance at *
  cases ho : w.order with
  | record =>
    rw [ho] at hk
    dsimp only at hk ⊢
    rw [gridOf_next (g := fun r f => (r, f)) hk (fun i _ h => recordAfter_follows h) fieldAfter_follows
      (fun a b c d h => by simpa using h)]
    split <;> rfl
  | field =>
    rw [ho] at hk
    dsimp only at hk ⊢
    rw [gridOf_next (g := fun f r => (r, f)) hk (fun i _ h => fieldAfter_follows h) recordAfter_follows
      (fun a b c d h => by simpa [and_comm] using h)]
    split <;> rfl

/-- The pointer's move leaves the sequence as it is, and the window but for its pointer. -/
theorem advance_eq (w : Window) :
    w.advance = { w with ptrRec := w.advance.ptrRec, ptrField := w.advance.ptrField } := by
  unfold Window.advance
  split <;> split <;> rfl

theorem sequence_advance_eq (w : Window) : w.advance.sequence = w.sequence := by rw [advance_eq]; rfl

/-- The cells from the pointer, and where the pointer ends, in the sequence. -/
theorem cellsFrom_eq (n : Nat) {w : Window} {k : Nat} (hk : w.sequence[k]? = some (w.ptrRec, w.ptrField)) :
    w.cellsFrom n = (List.range n).map (fun j => w.sequence.getD ((k + j) % w.sequence.length) (0, 0)) ∧
    w.advanceBy n = { w with
      ptrRec := (w.sequence.getD ((k + n) % w.sequence.length) (0, 0)).1
      ptrField := (w.sequence.getD ((k + n) % w.sequence.length) (0, 0)).2 } := by
  have here : w.sequence.getD ((k + 0) % w.sequence.length) (0, 0) = (w.ptrRec, w.ptrField) := by
    have hlt := (List.getElem?_eq_some_iff.1 hk).1
    rw [Nat.add_zero, Nat.mod_eq_of_lt hlt, List.getD_eq_getElem?_getD, hk]
    rfl
  induction n generalizing w k with
  | zero =>
    refine ⟨rfl, ?_⟩
    rw [here]
    rfl
  | succ n ih =>
    have hnext := sequence_advance hk
    have hmod : ∀ j, ((k + 1) % w.sequence.length + j) % w.sequence.length = (k + (j + 1)) % w.sequence.length := fun j => by
      rw [Nat.mod_add_mod]; congr 1; omega
    rw [← sequence_advance_eq w] at hnext
    obtain ⟨hcells, hptr⟩ := ih hnext (by
      have hlt := (List.getElem?_eq_some_iff.1 hnext).1
      rw [Nat.add_zero, Nat.mod_eq_of_lt hlt, List.getD_eq_getElem?_getD, hnext]
      rfl)
    simp only [sequence_advance_eq, hmod] at hcells hptr
    refine ⟨?_, ?_⟩
    · rw [Window.cellsFrom, hcells, List.range_succ_eq_map, List.map_cons, here, List.map_map]
      rfl
    · rw [Window.advanceBy, hptr, advance_eq]

/-! ### Marks and answers -/

/-- Bit i of the marks is the mark of value i. -/
theorem testBit_markBits (xs : List CellRead) (i : Nat) :
    (markBits xs).testBit i = (xs[i]?.map CellRead.mark == some true) := by
  induction xs generalizing i with
  | nil => simp [markBits]
  | cons x xs ih =>
    have hcons : markBits (x :: xs) = 2 * markBits xs + if x.mark then 1 else 0 := rfl
    rw [hcons]
    cases i with
    | zero => cases hx : x.mark <;> simp [hx]
    | succ i =>
      have hdiv : (2 * markBits xs + if x.mark then 1 else 0) / 2 = markBits xs := by split <;> omega
      rw [Nat.testBit_succ, hdiv, ih]
      rfl

/-- Cells that carry no mark. -/
theorem markBits_readsAnswered (cells : List SettingRead) : markBits (readsAnswered cells) = 0 := by
  induction cells with
  | nil => rfl
  | cons c cells ih =>
    have : markBits (readsAnswered (c :: cells)) = 2 * markBits (readsAnswered cells) + 0 := rfl
    rw [this, ih]

/-- A count out of range. -/
theorem takeReadData_range {n : Nat} (h : n = 0 ∨ 30 < n) : takeReadData n s = refuse s .range := if_pos h

/-- No window. -/
theorem takeReadData_state {n : Nat} (h1 : 1 ≤ n) (h2 : n ≤ 30) (hw : s.sp.window = none) :
    takeReadData n s = refuse s .state := by
  rw [takeReadData, if_neg (by omega), hw]

/-- The window the pointer moves in, unless it stands. -/
theorem moved_eq {w w' : Window} {t : State} (stands : Bool) (hw : t.sp.window = some w) :
    (if stands then t else setTheWindow w' t) =
      { t with sp := { t.sp with window := if stands then some w else some w' } } := by
  cases stands
  · rfl
  · simp only [if_true]
    rw [← hw]

/-- READ DATA over a table of records. -/
theorem takeReadData_records {n : Nat} {w : Window} (h1 : 1 ≤ n) (h2 : n ≤ 30) (hw : s.sp.window = some w)
    (ht : w.table ≠ .settings) :
    takeReadData n s =
      let x := readCells w.table (w.cellsFrom n) s
      done { x.1 with sp := { x.1.sp with window := if s.sp.amend then some w else some (w.advanceBy n) } }
        (readDataResult (placeBytes w s.sp.amend) x.2) := by
  have hsp : (readCells w.table (w.cellsFrom n) s).1.sp = s.sp := by rw [readCells_eq]
  rw [takeReadData, if_neg (by omega), hw]
  dsimp only
  rw [if_neg ht, moved_eq _ (by rw [hsp, hw])]

/-- READ DATA over SETTINGS. -/
theorem takeReadData_settings {n : Nat} {w : Window} (h1 : 1 ≤ n) (h2 : n ≤ 30) (hw : s.sp.window = some w)
    (ht : w.table = .settings) :
    takeReadData n s =
      let fields := (w.cellsFrom n).map fun c => c.2
      asking { op := .read (fields.map fun f => { field := f }), place := placeBytes w s.sp.amend, waiting := ownersOf fields }
        { s with sp := { s.sp with window := if s.sp.amend then some w else some (w.advanceBy n) } } := by
  rw [takeReadData, if_neg (by omega), hw]
  dsimp only
  rw [if_pos ht, moved_eq _ hw]

/-- Settles O13: the cells in sequence order, the marks, READ DATA check by check, and an owner's answer. -/
theorem readDataAnswersTheCells : Obligations.ReadDataAnswersTheCells := by
  unfold Obligations.ReadDataAnswersTheCells
  intro owner place
  refine ⟨fun w n k => ?cells, testBit_markBits, fun n s hp => ?requests, fun b cells at' waiting s hs hg hb => ?answer⟩
  case cells =>
    intro fields records sequence cell hk
    have hseq : w.sequence = sequence := by
      unfold Window.sequence
      split <;> next h => simp only [sequence, h]; rfl
    rw [← hseq] at hk
    simp only [cell, ← hseq]
    exact cellsFrom_eq n hk
  case requests =>
    have taken : exec (.readData [1, n]) s = .next (postTaken 0x11 (takeReadData n.toNat (atOwner 0x11 s))) :=
      hostRequestKeepingAmend_at _ hp rfl (frameParams_one n)
    refine ⟨fun w hw h1 h2 => ?_, fun h => ?_, fun h1 h2 hw => ?_⟩
    · intro moved x fields
      refine ⟨fun ht => ?_, fun ht => ?_⟩
      · rw [taken, takeReadData_records (s := atOwner 0x11 s) h1 h2 hw ht]
        rfl
      · rw [taken, takeReadData_settings (s := atOwner 0x11 s) h1 h2 hw ht]
        rfl
    · rw [taken, takeReadData_range h]
      rfl
    · rw [taken, takeReadData_state (s := atOwner 0x11 s) h1 h2 hw]
      rfl
  case answer =>
    intro read
    rw [exec_answerToSlot_owner hs hg hb]
    refine congrArg Host.Outcome.next (congrArg (fun d => gathered _ d _) ?_)
    show at' ++ le32 (markBits (readsAnswered read)) ++ (readsAnswered read).flatMap (fun c => le32 c.value.toNat) = _
    rw [markBits_readsAnswered, readsAnswered, List.flatMap_map]

end Sys2Proof.Machine
end

section
/-! WRITE DATA (R188, R189): the values offered, the claims that close the owner's event, a claim skipped. -/
namespace Sys2Proof.Machine

variable {s : State}

/-! ### A skipped claim changes nothing (R188) -/

/-- The state stands wherever a reason is given. -/
def SkipsUnchanged (s : State) (y : State × Option Reason) : Prop := ∀ r, y.2 = some r → y.1 = s

/-- A claim taken. -/
@[simp] theorem skipsUnchanged_taken (t : State) : SkipsUnchanged s (t, none) := fun _ h => nomatch h

/-- A claim skipped. -/
@[simp] theorem skipsUnchanged_skipped (r : Reason) : SkipsUnchanged s (s, some r) := fun _ _ => rfl

theorem skipsUnchanged_writeKey (i : Fin Config.gauges) (k : Fin Config.scanners) (ch : Fin Config.channels)
    (s : State) : SkipsUnchanged s (writeKey i k ch s) := by
  unfold writeKey
  dsimp only
  (repeat' split) <;> simp

theorem skipsUnchanged_writeGauge (i : Fin Config.gauges) (f : Nat) (x : Int) (s : State) :
    SkipsUnchanged s (writeGauge i f x s) := by
  unfold writeGauge
  split
  · simp
  · unfold writeOpenGauge
    dsimp only
    (repeat' split) <;> simp [skipsUnchanged_writeKey]

theorem skipsUnchanged_writeCrack (i : Fin Config.cracks) (f : Nat) (x : Int) (s : State) :
    SkipsUnchanged s (writeCrack i f x s) := by
  unfold writeCrack
  dsimp only
  (repeat' split) <;> simp

theorem skipsUnchanged_writeLoop (l : Fin Config.loops) (f : Nat) (x : Int) (s : State) :
    SkipsUnchanged s (writeLoop l f x s) := by
  unfold writeLoop
  dsimp only
  (repeat' split) <;> simp

theorem skipsUnchanged_writeSensor (c : Fin Config.sensors) (f : Nat) (x : Int) (s : State) :
    SkipsUnchanged s (writeSensor c f x s) := by
  unfold writeSensor
  dsimp only
  (repeat' split) <;> simp

theorem skipsUnchanged_writeZone (z f : Nat) (x : Int) (s : State) : SkipsUnchanged s (writeZone z f x s) := by
  unfold writeZone
  (repeat' split) <;> simp

theorem skipsUnchanged_writeActuator (a : Fin Config.actuators) (f : Nat) (x : Int) (s : State) :
    SkipsUnchanged s (writeActuator a f x s) := by
  unfold writeActuator restWrite
  dsimp only
  (repeat' split) <;> simp

theorem skipsUnchanged_writeStandbyBank (f : Nat) (x : Int) (s : State) : SkipsUnchanged s (writeStandbyBank f x s) := by
  unfold writeStandbyBank
  (repeat' split) <;> simp

theorem skipsUnchanged_writeSequencerSetting (f : Nat) (x : Int) (s : State) :
    SkipsUnchanged s (writeSequencerSetting f x s) := by
  unfold writeSequencerSetting
  (repeat' split) <;> simp

theorem skipsUnchanged_writeLinkTimeout (x : Int) (s : State) : SkipsUnchanged s (writeLinkTimeout x s) := by
  unfold writeLinkTimeout
  split <;> simp

theorem skipsUnchanged_writeAcousticSetting (f : Nat) (x : Int) (s : State) :
    SkipsUnchanged s (writeAcousticSetting f x s) := by
  unfold writeAcousticSetting
  dsimp only
  (repeat' split) <;> simp

theorem skipsUnchanged_writeCrackSetting (f : Nat) (x : Int) (s : State) :
    SkipsUnchanged s (writeCrackSetting f x s) := by
  unfold writeCrackSetting
  dsimp only
  (repeat' split) <;> simp

theorem skipsUnchanged_writeSetting (f : Nat) (x : Int) (s : State) : SkipsUnchanged s (writeSetting f x s) := by
  unfold writeSetting
  (repeat' split) <;> simp [skipsUnchanged_writeSequencerSetting, skipsUnchanged_writeLinkTimeout,
    skipsUnchanged_writeAcousticSetting, skipsUnchanged_writeCrackSetting]

theorem skipsUnchanged_writeRecord {n : Nat} {f : Fin n → Nat → Int → State → State × Option Reason}
    (h : ∀ i k x s, SkipsUnchanged s (f i k x s)) (r k : Nat) (x : Int) (s : State) :
    SkipsUnchanged s (writeRecord f r k x s) := by
  unfold writeRecord
  split
  · exact h _ _ _ s
  · simp

/-- Whatever the table, a claim skipped leaves the state. -/
theorem skipsUnchanged_writeCell (t : WTable) (r f : Nat) (v : Word) (s : State) :
    SkipsUnchanged s (writeCell t r f v s) := by
  cases t with
  | gauges => exact skipsUnchanged_writeRecord skipsUnchanged_writeGauge _ _ _ s
  | cracks => exact skipsUnchanged_writeRecord skipsUnchanged_writeCrack _ _ _ s
  | loops => exact skipsUnchanged_writeRecord skipsUnchanged_writeLoop _ _ _ s
  | sensors => exact skipsUnchanged_writeRecord skipsUnchanged_writeSensor _ _ _ s
  | zones => exact skipsUnchanged_writeZone _ _ _ s
  | actuators => exact skipsUnchanged_writeRecord skipsUnchanged_writeActuator _ _ _ s
  | standbyBank => exact skipsUnchanged_writeStandbyBank _ _ s
  | activeBank => exact skipsUnchanged_skipped _
  | settings => exact skipsUnchanged_writeSetting _ _ s

/-! ### The values and their outcomes -/

/-- The values of a parameter list, four bytes each. -/
theorem wordsOf_eq (ps : List Byte) (h : ps.length % 4 = 0) :
    wordsOf ps = (List.range (ps.length / 4)).map fun k => BitVec.ofNat 32
      (u32 (ps.getD (4 * k) 0) (ps.getD (4 * k + 1) 0) (ps.getD (4 * k + 2) 0) (ps.getD (4 * k + 3) 0)) := by
  induction ps using wordsOf.induct with
  | case1 b0 b1 b2 b3 rest ih =>
    have hlen : (b0 :: b1 :: b2 :: b3 :: rest).length = rest.length + 4 := rfl
    rw [hlen] at h ⊢
    rw [wordsOf, ih (by omega), Nat.add_div_right _ (by decide), List.range_succ_eq_map, List.map_cons, List.map_map]
    refine congrArg₂ _ rfl (List.map_congr_left fun k _ => ?_)
    have h4 : 4 * (k + 1) = 4 * k + 1 + 1 + 1 + 1 := by omega
    simp only [Function.comp, Nat.succ_eq_add_one, h4, List.getD_cons_succ]
  | case2 ps hne =>
    rcases ps with _ | ⟨a, _ | ⟨b, _ | ⟨c, _ | ⟨d, rest⟩⟩⟩⟩
    · rfl
    · simp at h
    · simp at h
    · simp at h
    · exact absurd rfl (hne a b c d rest)

/-- The first reason given. -/
theorem firstSkip_eq (outs : List ((Nat × Nat) × Option Reason)) :
    firstSkip outs = ((outs.map fun o => o.2).filterMap id).headD .none := by
  rw [firstSkip, List.filterMap_map, List.headD_eq_head?_getD, List.head?_filterMap]
  rfl

/-- The counts and first reason as the answer carries them. -/
def outcomeBytes (outs : List (Option Reason)) : List Byte :=
  [byteOf (outs.countP fun o => o.isNone), byteOf (outs.countP fun o => o.isSome),
    ((outs.filterMap id).headD .none).code]

theorem writeDataResult_eq (outs : List ((Nat × Nat) × Option Reason)) (place : List Byte) :
    writeDataResult outs place = outcomeBytes (outs.map fun o => o.2) ++ place := by
  rw [writeDataResult, firstSkip_eq, outcomeBytes, List.countP_map, List.countP_map]
  rfl

/-! ### The claims that close the event (R85, R146) -/

/-- A crack claim taken names a crack record. -/
theorem lt_of_writeCells_cracks (cs : List ((Nat × Nat) × Word)) (s : State) :
    ∀ o ∈ (writeCells .cracks cs s).2, o.2 = none → o.1.1 < 48 := by
  induction cs generalizing s with
  | nil => intro o ho; cases ho
  | cons c cs ih =>
    intro o ho hn
    rcases List.mem_cons.1 ho with rfl | ho
    · by_contra hge
      have : (writeCell .cracks c.1.1 c.1.2 c.2 s).2 = some .range := by
        simp only [writeCell, writeRecord, Table.index?_ge (n := Config.cracks) (Nat.not_lt.1 hge)]
      exact absurd (this.symm.trans hn) (by simp)
    · exact ih _ o ho hn

/-- Each added once: no doubles, and those there were with those added. -/
theorem foldl_addOnce {α β : Type} [DecidableEq β] (f : α → β) (xs : List α) (acc : List β) (h : acc.Nodup) :
    (xs.foldl (fun zs x => addOnce (f x) zs) acc).Nodup ∧
      ∀ z, z ∈ xs.foldl (fun zs x => addOnce (f x) zs) acc ↔ z ∈ acc ∨ ∃ x ∈ xs, f x = z := by
  induction xs generalizing acc with
  | nil => exact ⟨h, by simp⟩
  | cons x xs ih =>
    have hnodup : (addOnce (f x) acc).Nodup := by
      unfold addOnce
      split
      · exact h
      · next hn => exact List.nodup_append.2 ⟨h, by simp, fun a ha b hb => by
          rintro rfl
          exact hn (List.mem_singleton.1 hb ▸ ha)⟩
    have hmem : ∀ z, z ∈ addOnce (f x) acc ↔ z ∈ acc ∨ f x = z := fun z => by
      unfold addOnce
      split
      · next hin => exact ⟨.inl, fun hz => hz.elim id fun e => e ▸ hin⟩
      · simp [eq_comm]
    obtain ⟨h1, h2⟩ := ih _ hnodup
    refine ⟨h1, fun z => (h2 z).trans ?_⟩
    rw [hmem, List.exists_mem_cons_iff, or_assoc]

/-- The zones of the taken crack derate writes, each once. -/
theorem mem_writtenCrackZones {outs : List ((Nat × Nat) × Option Reason)} (h : ∀ o ∈ outs, o.2 = none → o.1.1 < 48)
    (t : State) : (writtenCrackZones outs t).Nodup ∧ ∀ z, z ∈ writtenCrackZones outs t ↔
      ∃ i : Fin Config.cracks, ((i.val, 9), none) ∈ outs ∧ t.cwu.sweep.passed (40 + i.val) = true ∧ (crack i t).zone = z := by
  obtain ⟨hn, hm⟩ := foldl_addOnce (fun o : (Nat × Nat) × Option Reason => (t.cwu.cracks.getD o.1.1 {}).zone)
    (outs.filter fun o => o.1.2 == 9 && o.2.isNone && crackPassed t o.1.1) [] List.nodup_nil
  refine ⟨hn, fun z => (hm z).trans ?_⟩
  simp only [List.not_mem_nil, false_or, List.mem_filter, Bool.and_eq_true, beq_iff_eq, Option.isNone_iff_eq_none]
  constructor
  · rintro ⟨⟨⟨r, f⟩, o⟩, ⟨hin, ⟨hf, ho⟩, hp⟩, hz⟩
    obtain rfl : f = 9 := hf
    obtain rfl : o = none := ho
    exact ⟨⟨r, h _ hin rfl⟩, hin, hp, by
      rw [← hz]
      exact congrArg Crack.zone (Table.getD_val t.cwu.cracks ⟨r, h _ hin rfl⟩ {}).symm⟩
  · rintro ⟨i, hin, hp, hz⟩
    exact ⟨_, ⟨hin, ⟨rfl, rfl⟩, hp⟩, by rw [Table.getD_val]; exact hz⟩

/-- The records of a table with their numbers. -/
theorem zipIdx_rows {α : Type} {n : Nat} (t : Table α n) :
    t.rows.zipIdx = (List.finRange n).map fun i => (t.get i, i.val) := by
  refine List.ext_getElem (by simp [t.size]) fun k h1 h2 => ?_
  simp [Table.get]

/-- The claim of a zone over its swept records. -/
theorem crackClaim_eq (z : Nat) (s : State) :
    let mine := (List.finRange Config.cracks).filter fun i =>
      decide ((crack i s).zone = z ∧ (crack i s).state ≠ .vacant) && s.cwu.sweep.passed (40 + i.val)
    let known := mine.filter fun i => decide ((crack i s).state = .confirmed ∨ (crack i s).state = .arrested)
    crackClaim s z = .crackDerate z ((known.map fun i => (crack i s).derate).foldl min 100) mine.length := by
  intro mine known
  have hmine : zoneCracks z s = mine.map fun i => crack i s := by
    rw [zoneCracks, zipIdx_rows, List.filter_map, List.map_map]
    refine congrArg (List.map _) (List.filter_congr fun i _ => ?_)
    show ((crack i s).zone == z && (crack i s).state != .vacant && s.cwu.sweep.passed (40 + i.val)) = _
    refine congrArg (· && _) ?_
    rw [Bool.decide_and, ← beq_eq_decide]
    refine congrArg _ (Bool.eq_iff_iff.2 ?_)
    simp
  have hknown : (zoneCracks z s).filter (fun r => r.state.known) = known.map fun i => crack i s := by
    rw [hmine, List.filter_map]
    refine congrArg (List.map _) (List.filter_congr fun i _ => ?_)
    show (crack i s).state.known = _
    cases (crack i s).state <;> rfl
  rw [crackClaim, hknown, hmine, List.foldl_map, List.foldl_map, List.length_map]

/-- The claims of other tables' writes. -/
theorem writeClaims_none {w : Window} {outs : List ((Nat × Nat) × Option Reason)} {t : State} (hg : w.table ≠ .gauges)
    (hc : w.table ≠ .cracks) : writeClaims w outs s t = [] := by
  unfold writeClaims
  split
  · next h => exact absurd h hg
  · next h => exact absurd h hc
  · rfl

/-! ### WRITE DATA -/

section
variable {ps : List Byte} {w : Window}

/-- No window. -/
theorem takeWriteData_state (h : ps ≠ []) (h4 : ps.length % 4 = 0) (hw : s.sp.window = none) :
    takeWriteData ps s = refuse s .state := by
  rw [takeWriteData, if_neg (by simp [h, h4]), hw]

/-- WRITE DATA over a table of records. -/
theorem takeWriteData_records (h : ps ≠ []) (h4 : ps.length % 4 = 0) (hw : s.sp.window = some w)
    (ht : w.table ≠ .settings) :
    takeWriteData ps s =
      let cells := (w.cellsFrom (wordsOf ps).length).zip (wordsOf ps)
      let x := writeCells w.table cells s
      done (setTheWindow (w.advanceBy (wordsOf ps).length) (sendAll (writeClaims w x.2 s x.1) x.1))
        (writeDataResult x.2 (placeBytes (w.advanceBy (wordsOf ps).length) s.sp.amend)) := by
  rw [takeWriteData, if_neg (by simp [h, h4]), hw]
  exact if_neg ht

/-- WRITE DATA over SETTINGS. -/
theorem takeWriteData_settings (h : ps ≠ []) (h4 : ps.length % 4 = 0) (hw : s.sp.window = some w)
    (ht : w.table = .settings) :
    takeWriteData ps s =
      let cells := (w.cellsFrom (wordsOf ps).length).zip (wordsOf ps)
      asking { op := .write (cells.map fun c => { field := c.1.2, value := c.2 })
               place := placeBytes (w.advanceBy (wordsOf ps).length) s.sp.amend
               waiting := ownersOf (cells.map fun c => c.1.2) } (setTheWindow (w.advanceBy (wordsOf ps).length) s) := by
  rw [takeWriteData, if_neg (by simp [h, h4]), hw]
  exact if_pos ht

end

/-- Settles O15: WRITE DATA by its window's table, the claims of the event, an owner's answer, and a claim skipped. -/
theorem writeDataOffersTheValues : Obligations.WriteDataOffersTheValues := by
  unfold Obligations.WriteDataOffersTheValues
  intro owner outcomes
  refine ⟨fun t s => ⟨rfl, fun r f v rest => rfl⟩, fun ps s hp h h4 hl => ?requests,
    fun n i => ⟨rfl, rfl, rfl⟩, crackClaim_eq, fun b claims place waiting s hs hg hb => ?answer,
    fun t r f v why s h => skipsUnchanged_writeCell t r f v s why h⟩
  case requests =>
    intro values
    have hvalues : wordsOf ps = values := wordsOf_eq ps h4
    have taken : exec (.writeData (byteOf ps.length :: ps)) s = .next (postTaken 0x12 (takeWriteData ps (atOwner 0x12 s))) :=
      hostRequestKeepingAmend_at _ hp rfl (frameParams_right hl)
    refine ⟨fun w hw => ?_, fun hw => ?_⟩
    · intro w' place cells x
      refine ⟨fun ht => ?_, fun ht => ?_⟩
      · refine ⟨writeClaims w x.2 (atOwner 0x12 s) x.1, ?_, fun hg => ?_, fun hc => ?_, writeClaims_none⟩
        · rw [taken, takeWriteData_records (s := atOwner 0x12 s) h h4 hw ht, hvalues]
          dsimp only
          rw [writeDataResult_eq]
          rfl
        · simp only [writeClaims, hg, claimsBetween, indices_eq_finRange]
          rfl
        · have hx : ∀ o ∈ x.2, o.2 = none → o.1.1 < 48 := by
            have := lt_of_writeCells_cracks cells (atOwner 0x12 s)
            rwa [← hc] at this
          obtain ⟨hn, hm⟩ := mem_writtenCrackZones hx x.1
          exact ⟨_, hn, by simp only [writeClaims, hc], hm⟩
      · rw [taken, takeWriteData_settings (s := atOwner 0x12 s) h h4 hw ht, hvalues]
        refine congrArg Host.Outcome.next (congrArg (fun b => asked { op := _, place := _, waiting := b } _) ?_)
        simp only [ownersOf, List.any_map]
        rfl
    · rw [taken, takeWriteData_state (s := atOwner 0x12 s) h h4 hw]
      rfl
  case answer =>
    intro start x
    rw [exec_answerToSlot_owner hs hg hb]
    refine congrArg Host.Outcome.next (congrArg (fun d => gathered _ d _) ?_)
    show writeDataResult (claimsAnswered x.2) place = _
    rw [writeDataResult_eq, claimsAnswered, List.map_map]
    rfl

end Sys2Proof.Machine
end

section
/-! The window fields (11.6): what each table's cells read. -/
namespace Sys2Proof.Machine

variable {s : State}

/-- A VACANT gauge record is shown at its defaults. -/
theorem shownGauge_eq (i : Fin Config.gauges) (s : State) :
    shownGauge i.val s = if (gauge i s).state = .vacant then {} else gauge i s := by
  simp only [shownGauge, Table.getD_val]
  rfl

/-- A VACANT crack record is shown at its defaults. -/
theorem shownCrack_eq (i : Fin Config.cracks) (s : State) :
    shownCrack i.val s = if (crack i s).state = .vacant then {} else crack i s := by
  simp only [shownCrack, Table.getD_val]
  rfl

/-- The rows of a table, read by number. -/
theorem rows_eq {α : Type} {n : Nat} (t : Table α n) (d : α) : t.rows = (List.range n).map fun j => t.getD j d := by
  refine List.ext_getElem (by simp [t.size]) fun k h1 h2 => ?_
  have hk : k < n := t.size ▸ h1
  rw [List.getElem_map, List.getElem_range, Table.getD, Table.index?_lt hk]
  rfl

/-- The loops a crack lists, one field each. -/
def loopFields (r : Crack) : List (Option Int) := (List.range 8).map fun k => r.loops[k]?.map fun l => (l.val : Int)

/-- The fields of a crack record. -/
theorem crackFields_eq (id : Nat) (r : Crack) :
    (List.range 24).map (crackField id r) =
      [natField id, natField r.state.code, optField (r.origin.map Origin.code), natField r.seed, natField r.zone,
        natField r.lo, natField r.hi, natField r.confWidth, natField r.openedPass, natField r.derate, natField r.activeRun,
        natField r.quietRun, natField r.hits, natField r.loops.length] ++ loopFields r ++
        [flagField r.growthHalt, natField r.note] := by
  have hl : ∀ k : Nat, optField (r.loops[k]?.map fun l : Fin Config.loops => l.val) =
      r.loops[k]?.map fun l : Fin Config.loops => (l.val : Int) := fun k => by
    cases r.loops[k]? <;> rfl
  have hrange : List.range 24 = List.range 14 ++ (List.range 8).map (14 + ·) ++ [22, 23] := rfl
  have hloops : (List.range 8).map (crackField id r ∘ (14 + ·)) = loopFields r := by
    have h8 : List.range 8 = [0, 1, 2, 3, 4, 5, 6, 7] := rfl
    simp only [loopFields, h8, List.map_cons, List.map_nil, ← hl]
    rfl
  rw [hrange, List.map_append, List.map_append, List.map_map, hloops]
  rfl

/-- A failing item's fields. -/
def failingFields (b : Bank) : List (Option Int) :=
  [failingField b fun x => some x.item.code, failingField b fun x => x.index, failingField b fun x => x.act]

/-- The fields of a bank. -/
theorem bankFields_eq (n : BankName) (b : Bank) :
    (List.range 45).map (bankField n b) =
      [natField n.code, natField b.len] ++ b.cells.rows.map some ++
        [some b.bed, natField b.lead, natField b.trail, natField b.endCount] ++ b.ends.rows.map some ++
        [natField b.ramp, natField b.dwell, natField b.dir.code, flagField b.shuttle, natField b.target,
          natField b.state.code] ++ failingFields b := by
  rw [rows_eq b.cells 0, rows_eq b.ends 0]
  rfl

/-- The settings. -/
theorem settingFields_eq (s : State) :
    (List.range 28).map (settingField s) =
      [natField s.zdu.tripCount, flagField s.zdu.tripArmed, natField s.ach.reportTimeout, natField s.ach.freeTime,
        natField s.lsq.restRamp, natField s.lsq.derateRamp, flagField !s.lsq.intervalAuto, natField s.lsq.intervalLen,
        natField s.lsq.scale, natField s.lsq.passCount, natField s.lsq.intervalNumber.toNat, natField s.lsq.intervalPasses,
        natField s.lsq.direction.code, natField s.gsc.linkTimeout, natField s.gsc.lastZeroed, natField s.gsc.lastSkipped,
        natField s.gsc.lastShuntGauge, natField s.gsc.lastShuntOutcome.code, natField s.cwu.waveSpeed,
        natField s.cwu.margin, natField s.cwu.sigAmp, natField s.cwu.confirmRun, natField s.cwu.lapseRun,
        natField s.cwu.threshold, natField s.cwu.joinDistance, natField s.cwu.confirmDerate, natField s.cwu.arrestDerate,
        natField s.cwu.growthLimit] := by
  have hauto : settingField s 6 = flagField !s.lsq.intervalAuto := by
    show natField (if s.lsq.intervalAuto then 0 else 1) = _
    cases s.lsq.intervalAuto <;> rfl
  have hrange : List.range 28 = List.range 6 ++ 6 :: List.range' 7 21 := rfl
  rw [hrange, List.map_append, List.map_cons, hauto]
  rfl

/-- Settles O16: each row as the list of 11.6, then marks, states and zones, the tables' sizes, the codes, the relations. -/
theorem windowFieldsRead : Obligations.WindowFieldsRead := by
  unfold Obligations.WindowFieldsRead
  intro nat flag opt row limits interval gaugeRow vacantGauge crackRow vacantCrack bankRow
  have banks : ∀ n b, (List.range 45).map (bankField n b) = bankRow n b := fun n b => by
    refine (bankFields_eq n b).trans ((List.append_right_inj _).2 ?_)
    unfold failingFields failingField
    cases b.state <;> rfl
  refine ⟨⟨rfl, fun x => rfl⟩, fun i s => ?gauges, fun i s => ?cracks, fun l s => ?loops, fun c s => ?sensors,
    fun z s => ?zones, fun a s => ?actuators, fun s => ⟨?standby, ?active⟩, fun s => ?settings, fun s => ?marks, ?sizes,
    ?codes, fun signed x y => ?relations⟩
  case gauges =>
    show (List.range 35).map (gaugeField (shownGauge i.val s)) = _
    rw [shownGauge_eq]
    split
    · rfl
    · generalize gauge i s = g
      rcases g with ⟨st⟩
      rcases st with _ | _ | _ | _ | _ | c | _
      case fault => cases c <;> rfl
      all_goals rfl
  case cracks =>
    show (List.range 24).map (crackField i.val (shownCrack i.val s)) = _
    rw [shownCrack_eq]
    split
    · rfl
    · exact crackFields_eq i.val (crack i s)
  case loops =>
    show (List.range 6).map (loopField (s.cwu.loops.getD l.val {})) = _
    rw [Table.getD_val]
    rfl
  case sensors =>
    show (List.range 3).map (sensorField (s.cwu.sensors.getD c.val {})) = _
    rw [Table.getD_val]
    rfl
  case zones =>
    show (List.range 10).map (zoneField (if z < zoneCount s then zoneLow z s else 0) (shownZone z s)) = _
    unfold shownZone
    split <;> rfl
  case actuators =>
    show (List.range 22).map (actuatorField (s.ach.acts.getD a.val {})) = _
    rw [Table.getD_val]
    change (List.range 22).map (actuatorField (act a s)) = _
    generalize act a s = r
    rcases r with ⟨_, _, st⟩
    cases st <;> rfl
  case standby => exact banks _ _
  case active => exact banks _ _
  case settings => exact settingFields_eq s
  case marks =>
    refine ⟨fun i => ⟨?_, ?_, ?_⟩, fun i => ⟨?_, ?_, ?_⟩, fun l => ⟨?_, ?_, ?_⟩, fun c => ⟨rfl, ?_, ?_⟩, fun a => ⟨rfl, ?_, ?_⟩,
      fun r => ⟨rfl, rfl, rfl, rfl, rfl⟩⟩
    · rw [← beq_eq_decide, vacancyMark, Table.getD_val]; rfl
    · rw [stateNumber, Table.getD_val]; rfl
    · rw [storedZone, shownGauge_eq]; split <;> rfl
    · rw [← beq_eq_decide, vacancyMark, Table.getD_val]; rfl
    · rw [stateNumber, Table.getD_val]; rfl
    · rw [storedZone, shownCrack_eq]; split <;> rfl
    · rw [← beq_eq_decide, vacancyMark, Table.getD_val]; rfl
    · rw [stateNumber, Table.getD_val]; rfl
    · rw [storedZone, Table.getD_val]; rfl
    · rw [stateNumber, Table.getD_val]; rfl
    · rw [storedZone, Table.getD_val]; rfl
    · rw [stateNumber, Table.getD_val]; rfl
    · rw [storedZone, Table.getD_val]; rfl
  case sizes => decide
  case codes =>
    exact ⟨rfl, fun _ => rfl, rfl, rfl, rfl, rfl, rfl, fun _ => rfl, rfl, rfl, rfl, rfl, rfl, rfl, fun _ => rfl, rfl, rfl⟩
  case relations =>
    intro number
    exact ⟨rfl, rfl, by simp [relationHolds, bne, beq_eq_decide], rfl, rfl⟩

end Sys2Proof.Machine
end

section
/-! Units (R196): the check of a unit, and the units of the three kinds that carry something. -/
namespace Sys2Proof.Machine

/-- The check is the sum of the bytes, modulo 65536. -/
theorem unitSum_toNat (body : List Byte) : (unitSum body).toNat = (body.map fun b => b.toNat).sum % 65536 := by
  have run : ∀ (bytes : List Byte) (acc : BitVec 16),
      (bytes.foldl (fun s b => s + b.zeroExtend 16) acc).toNat = (acc.toNat + (bytes.map fun b => b.toNat).sum) % 65536 := by
    intro bytes
    induction bytes with
    | nil => intro acc; simp [Nat.mod_eq_of_lt acc.isLt]
    | cons b bytes ih =>
      intro acc
      have hb : (b.zeroExtend 16).toNat = b.toNat := by
        have : b.toNat < 65536 := lt_trans b.isLt (by decide)
        simp [Nat.mod_eq_of_lt this]
      rw [List.foldl_cons, ih, BitVec.toNat_add, hb, List.map_cons, List.sum_cons]
      show ((acc.toNat + b.toNat) % 65536 + _) % 65536 = _
      omega
  simpa [unitSum] using run body 0

/-- A unit's check, low byte first. -/
theorem sealUnit_eq (body : List Byte) : let sum := (body.map fun b => b.toNat).sum % 65536
    sealUnit body = body ++ [BitVec.ofNat 8 sum, BitVec.ofNat 8 (sum / 256)] := by
  intro sum
  rw [sealUnit, unitSum_toNat]
  rfl

/-- A byte is a number below 256 exactly when it reads as it. -/
theorem byte_eq_iff {b : Byte} {n : Nat} (h : n < 256) : b.toNat = n ↔ b = BitVec.ofNat 8 n :=
  ⟨fun e => BitVec.eq_of_toNat_eq (e.trans (Nat.mod_eq_of_lt h).symm), fun e => e ▸ Nat.mod_eq_of_lt h⟩

/-- The card status a byte names. -/
theorem cardStatusOf_eq_some_iff {b : Byte} {st : CardStatus} : cardStatusOf b = some st ↔
    (b, st) ∈ [((0 : Byte), CardStatus.ramping), (1, .settled), (2, .holding), (3, .free), (4, .cardFault)] := by
  constructor
  · intro h
    unfold cardStatusOf at h
    split at h
    case h_6 => cases h
    all_goals
      next hb =>
        cases h
        rw [(byte_eq_iff (by decide)).1 hb]
        simp
  · intro h
    simp only [List.mem_cons, List.not_mem_nil, or_false, Prod.mk.injEq] at h
    rcases h with ⟨rfl, rfl⟩ | ⟨rfl, rfl⟩ | ⟨rfl, rfl⟩ | ⟨rfl, rfl⟩ | ⟨rfl, rfl⟩ <;> rfl

/-- A good REPORT, byte by byte. -/
theorem parseReport_eq_some_iff {unit : List Byte} {rep : CardReport} : parseReport unit = some rep ↔
    ∃ status f0 f1 s0 s1 : Byte, unit = sealUnit [0x81, rep.echo, status, f0, f1, s0, s1] ∧
      cardStatusOf status = some rep.status ∧ rep.force = (bits16 f0 f1).toInt ∧ rep.stroke = (bits16 s0 s1).toInt := by
  constructor
  · intro h
    unfold parseReport at h
    split at h
    · next ty echo status f0 f1 s0 s1 ho =>
      split at h
      · next hty =>
        obtain ⟨st, hst, hrep⟩ := Option.map_eq_some_iff.1 h
        subst hrep hty
        exact ⟨status, f0, f1, s0, s1, openUnit_eq_some.1 ho, hst, rfl, rfl⟩
      · cases h
    · cases h
  · rintro ⟨status, f0, f1, s0, s1, rfl, hst, hf, hs⟩
    have ho : openUnit (sealUnit [0x81, rep.echo, status, f0, f1, s0, s1]) = _ := openUnit_eq_some.2 rfl
    simp only [parseReport, ho, hst, ← hf, ← hs]
    rfl

/-- A good hit, byte by byte. -/
theorem parseHit_eq_some_iff {unit : List Byte} {raw : RawHit} : parseHit unit = some raw ↔
    ∃ sensor t0 t1 t2 t3 amplitude : Byte, unit = sealUnit [0xA1, sensor, t0, t1, t2, t3, amplitude] ∧
      raw = { sensor := sensor.toNat, amplitude := amplitude.toNat, time := BitVec.ofNat 32 (u32 t0 t1 t2 t3) } := by
  constructor
  · intro h
    unfold parseHit at h
    split at h
    · next ty sensor t0 t1 t2 t3 amp ho =>
      split at h
      · next hty =>
        cases h
        subst hty
        exact ⟨sensor, t0, t1, t2, t3, amp, openUnit_eq_some.1 ho, rfl⟩
      · cases h
    · cases h
  · rintro ⟨sensor, t0, t1, t2, t3, amp, rfl, rfl⟩
    have ho : openUnit (sealUnit [0xA1, sensor, t0, t1, t2, t3, amp]) = _ := openUnit_eq_some.2 rfl
    simp only [parseHit, ho]
    rfl

end Sys2Proof.Machine
end

section
/-! SET drive commands (R26, R57) and reports (R29 to R33, R35, R37) at ACH. -/
namespace Sys2Proof.Machine

variable {a : Fin Config.actuators} {s : State}

/-! ### SET (R26) -/

section
variable {target : Int} {ramp : Nat}

/-- A SET to a record that sends one. -/
theorem takeSetCommand_sent (h : ((act a s).state = .standby ∧ (act a s).link = .live) ∨
      (((act a s).state = .driven ∨ (act a s).state = .holding) ∧ (act a s).freeWait = false)) :
    takeSetCommand a target ramp s = recordAnswer a target (some (nextTag (act a s))) (sendSet a target ramp s) := by
  rcases h with ⟨hst, hl⟩ | ⟨hst | hst, hw⟩
  · simp [takeSetCommand, takeSetAtAch, setIsSent, hst, hl]
  · simp [takeSetCommand, takeSetAtAch, setIsSent, hst, hw]
  · simp [takeSetCommand, takeSetAtAch, setIsSent, hst, hw]

/-- A SET to a STANDBY record on a link not LIVE. -/
theorem takeSetCommand_faults (hst : (act a s).state = .standby) (hl : (act a s).link ≠ .live) :
    takeSetCommand a target ramp s = recordAnswer a target none (enterFault a .link s) := by
  simp [takeSetCommand, takeSetAtAch, setIsSent, hst, hl]

/-- A SET to a record in FAULT. -/
theorem takeSetCommand_faulted {c : ActCause} (hst : (act a s).state = .fault c) :
    takeSetCommand a target ramp s = recordAnswer a target none (send (.actFault a c) s) := by
  simp [takeSetCommand, takeSetAtAch, setIsSent, hst]

/-- A SET dropped. -/
theorem takeSetCommand_dropped (h : (act a s).state = .off ∨
      (((act a s).state = .driven ∨ (act a s).state = .holding) ∧ (act a s).freeWait = true)) :
    takeSetCommand a target ramp s = recordAnswer a target none s := by
  rcases h with hst | ⟨hst | hst, hw⟩
  · simp [takeSetCommand, takeSetAtAch, setIsSent, hst]
  · simp [takeSetCommand, takeSetAtAch, setIsSent, hst, hw]
  · simp [takeSetCommand, takeSetAtAch, setIsSent, hst, hw]

end

/-- Settles O28: each clause is one outcome of the command once its message has arrived. -/
theorem setDriveCommand : Obligations.SetDriveCommand := by
  intro a target ramp s hs r rest tag limited noTag
  have taken : exec (.setCommand a target ramp) s =
      .next (takeSetCommand a target ramp (arrive (.setCommand a target ramp) s)) := onArrival_free _ _ hs
  rw [taken]
  refine ⟨fun h => ?sent, fun hst hl => ?faults, fun c hst => ?faulted, fun h => ?dropped⟩
  case sent => exact congrArg _ (takeSetCommand_sent (s := arrive _ s) h)
  case faults =>
    rw [takeSetCommand_faults (s := arrive _ s) hst hl, enterFault_notLive (s := arrive _ s) _ hl]
    rfl
  case faulted => exact congrArg _ (takeSetCommand_faulted (s := arrive _ s) hst)
  case dropped => exact congrArg _ (takeSetCommand_dropped (s := arrive _ s) h)

/-! ### Reports (R29 to R33) -/

/-- Actuator `a`'s record replaced and messages sent. -/
def actChanged (a : Fin Config.actuators) (x : Actuator) (ms : List Instr) (s : State) : State :=
  { s with ach := { s.ach with acts := s.ach.acts.set a x }, transit := s.transit ++ ms }

/-- The record as read after it. -/
@[simp] theorem act_actChanged (x : Actuator) (ms : List Instr) : act a (actChanged a x ms s) = x :=
  Table.get_set_same _ _ _

/-- Of two changes the second record stands, the messages follow one another. -/
theorem actChanged_actChanged (x y : Actuator) (ms ns : List Instr) :
    actChanged a y ns (actChanged a x ms s) = actChanged a y (ms ++ ns) s := by
  simp [actChanged]

theorem setAct_actChanged (x y : Actuator) (ms : List Instr) :
    setAct a y (actChanged a x ms s) = actChanged a y ms s := by
  simp [actChanged, setAct, onAch]

/-- The link report of a link that leaves LOST. -/
def linkBack (a : Fin Config.actuators) (r : Actuator) : List Instr :=
  if r.link = .lost then [.linkReport (.drive a) false] else []

/-- Everything the storing of a report does. -/
theorem storeReport_eq (rep : CardReport) :
    storeReport a rep s = actChanged a (stored s.ach.reportTimeout rep (act a s)) (linkBack a (act a s)) s := by
  unfold storeReport linkBack
  dsimp only
  split
  · rfl
  · simp [actChanged, setAct, onAch]

/-- Everything fault entry of a record on a LIVE link does. -/
theorem enterFault_actChanged {x : Actuator} (ms : List Instr) (c : ActCause) (hl : x.link = .live) :
    enterFault a c (actChanged a x ms s) =
      { actChanged a { x with
          state := .fault c, settleTimer := none, settledMark := false, holdOwed := false, lastTag := x.lastTag + 1 }
          (ms ++ [.actFault a c, .attentionEventReport .actFault]) s with
        sent := s.sent ++ [⟨.drive a, sealUnit [0x02, x.lastTag + 1]⟩] } := by
  rw [enterFault_live c (by rw [act_actChanged]; exact hl), act_actChanged]
  simp [actChanged]

/-- A unit that fails. -/
theorem takeReport_bad {unit : List Byte} (h : parseReport unit = none) : takeReport a unit s = s := by
  simp only [takeReport, h]

/-- A good one is stored and judged. -/
theorem takeReport_good {unit : List Byte} {rep : CardReport} (h : parseReport unit = some rep) :
    takeReport a unit s = judgeReport a rep (settlesHold (act a s))
      (actChanged a (stored s.ach.reportTimeout rep (act a s)) (linkBack a (act a s)) s) := by
  simp only [takeReport, h, storeReport_eq]

section
variable {rep : CardReport} {b : Bool} {c : ActCause}

/-- In DRIVEN and HOLDING outside a free wait a check that fails is a fault. -/
theorem judgeReport_checkFails (hst : (act a s).state = .driven ∨ (act a s).state = .holding)
    (hw : (act a s).freeWait = false) (hc : firstChecks (act a s) rep = some c) :
    judgeReport a rep b s = enterFault a c s := by
  rcases hst with hst | hst <;> simp [judgeReport, hst, hw, hc]

/-- In HOLDING nothing follows the checks. -/
theorem judgeReport_holding (hst : (act a s).state = .holding) (hw : (act a s).freeWait = false)
    (hc : firstChecks (act a s) rep = none) : judgeReport a rep b s = s := by
  simp [judgeReport, hst, hw, hc]

/-- In DRIVEN the settle and the following check do. -/
theorem judgeReport_driven (hst : (act a s).state = .driven) (hw : (act a s).freeWait = false)
    (hc : firstChecks (act a s) rep = none) : judgeReport a rep b s = judgeDriven a rep s := by
  simp [judgeReport, hst, hw, hc]

/-- The checks of R31. -/
theorem firstChecks_card {r : Actuator} (h : rep.status = .cardFault ∨ (rep.status = .free ∧ rep.echo = r.lastTag)) :
    firstChecks r rep = some .card := by
  rcases h with h | h <;> simp [firstChecks, h]

theorem firstChecks_stroke {r : Actuator} (h : ¬ (rep.status = .cardFault ∨ (rep.status = .free ∧ rep.echo = r.lastTag)))
    (ho : rep.stroke < r.strokeMin ∨ r.strokeMax < rep.stroke) : firstChecks r rep = some .stroke := by
  obtain ⟨h1, h2⟩ := not_or.1 h
  rw [firstChecks, if_neg h1, if_neg h2, if_pos (by simpa [strokeOutside] using ho)]

theorem firstChecks_pass {r : Actuator} (h : ¬ (rep.status = .cardFault ∨ (rep.status = .free ∧ rep.echo = r.lastTag)))
    (ho : ¬ (rep.stroke < r.strokeMin ∨ r.strokeMax < rep.stroke)) : firstChecks r rep = none := by
  obtain ⟨h1, h2⟩ := not_or.1 h
  rw [firstChecks, if_neg h1, if_neg h2, if_neg (by simpa [strokeOutside] using ho)]

/-- The settle of R32. -/
theorem judgeDriven_settles (hm : (act a s).settledMark = false) (hs : rep.status = .settled)
    (he : rep.echo = (act a s).lastTag) : judgeDriven a rep s = settle a s := by
  simp [judgeDriven, hm, hs, he]

theorem judgeDriven_waits (hm : (act a s).settledMark = false)
    (h : rep.status ≠ .settled ∨ rep.echo ≠ (act a s).lastTag) : judgeDriven a rep s = s := by
  rw [judgeDriven, if_neg (by simp [hm]), if_neg fun e => h.elim (· e.1) (· e.2)]

/-- The following check of R33. -/
theorem judgeDriven_follows (hm : (act a s).settledMark = true) : judgeDriven a rep s = followingCheck a rep s := if_pos hm

theorem followingCheck_within (h : nextFollowRun (act a s) rep.force < 3) : followingCheck a rep s =
    setAct a { act a s with followRun := nextFollowRun (act a s) rep.force } s := if_neg (by omega)

theorem followingCheck_third (h : 3 ≤ nextFollowRun (act a s) rep.force) : followingCheck a rep s =
    enterFault a .following (setAct a { act a s with followRun := nextFollowRun (act a s) rep.force } s) := if_pos h

end

/-- Settles O30: the checks, the settle and the following check, on the record as stored. -/
theorem reportJudgedWhileDriven : Obligations.ReportJudgedWhileDriven := by
  intro a unit rep s hs hp hw r r1 back keep enter bad out run
  have taken : exec (.report a unit) s = .next (judgeReport a rep (settlesHold r) (actChanged a r1 back s)) :=
    congrArg Host.Outcome.next ((unlessHeld_free _ hs).trans (takeReport_good hp))
  have hact : act a (actChanged a r1 back s) = r1 := act_actChanged _ _
  have hst : ∀ {st}, r.state = st → (act a (actChanged a r1 back s)).state = st := fun h => by rw [hact]; exact h
  have hw1 : (act a (actChanged a r1 back s)).freeWait = false := by rw [hact]; exact hw
  have entered : ∀ (x : Actuator) (c : ActCause), x.link = .live → x.holdOwed = false → x.lastTag = r.lastTag →
      enterFault a c (actChanged a x back s) = enter x c := fun x c hl ho ht => by
    rw [enterFault_actChanged _ _ hl, ht]
    simp only [enter, actChanged, List.append_assoc, ← ho]
  have hbad : ∀ {c}, firstChecks r1 rep = some c → firstChecks (act a (actChanged a r1 back s)) rep = some c :=
    fun h => by rw [hact]; exact h
  have hgood : ¬ bad → ¬ out → firstChecks (act a (actChanged a r1 back s)) rep = none := fun h1 h2 => by
    rw [hact]; exact firstChecks_pass h1 h2
  rw [taken]
  refine ⟨fun h hb => ?card, fun h hb ho => ?stroke, fun h hb ho => ?holding, fun h hb ho hm => ⟨fun h1 h2 => ?settles,
    fun h' => ?waits⟩, fun h hb ho hm => ⟨fun hr => ?within, fun hr => ?following⟩⟩
  case card =>
    rw [judgeReport_checkFails (h.imp hst hst) hw1 (hbad (firstChecks_card hb)), entered r1 _ rfl rfl rfl]
  case stroke =>
    rw [judgeReport_checkFails (h.imp hst hst) hw1 (hbad (firstChecks_stroke hb ho)), entered r1 _ rfl rfl rfl]
  case holding =>
    rw [judgeReport_holding (hst h) hw1 (hgood hb ho)]
    rfl
  case settles =>
    rw [judgeReport_driven (hst h) hw1 (hgood hb ho), judgeDriven_settles (by rw [hact]; exact hm) h1 (by rw [hact]; exact h2),
      settle, hact, setAct_actChanged]
    simp [actChanged, send]
    rfl
  case waits =>
    rw [judgeReport_driven (hst h) hw1 (hgood hb ho), judgeDriven_waits (by rw [hact]; exact hm) (by rw [hact]; exact h')]
    rfl
  case within =>
    rw [judgeReport_driven (hst h) hw1 (hgood hb ho), judgeDriven_follows (by rw [hact]; exact hm),
      followingCheck_within (by rw [hact]; exact hr), hact, setAct_actChanged]
    rfl
  case following =>
    rw [judgeReport_driven (hst h) hw1 (hgood hb ho), judgeDriven_follows (by rw [hact]; exact hm),
      followingCheck_third (by rw [hact]; exact hr), hact, setAct_actChanged]
    exact congrArg _ (entered { r1 with followRun := run } .following rfl rfl rfl)

end Sys2Proof.Machine
end

section
/-! Reports outside the drive (R29, R35, R37) and the actuator timers (R30, R34, R35) at ACH. -/
namespace Sys2Proof.Machine

variable {a : Fin Config.actuators} {s : State} {rep : CardReport}

/-- DRIVEN or HOLDING. -/
def Actuator.Serving (r : Actuator) : Prop := r.state = .driven ∨ r.state = .holding

/-- FAULT, whatever its cause. -/
def Actuator.InFault (r : Actuator) : Prop := ∃ c, r.state = .fault c

/-! ### The end of a free wait (R35) -/

theorem endWaitFree_fault (h : (act a s).InFault) :
    endWaitFree a s = actChanged a (waitEnded (act a s)) [.freed a] s := by
  obtain ⟨c, h⟩ := h
  simp [endWaitFree, waitEnded, h, actChanged, send, setAct, onAch]

theorem endWaitFree_serving (h : (act a s).Serving) :
    endWaitFree a s = actChanged a { waitEnded (act a s) with state := .standby } [.freed a] s := by
  rcases h with h | h <;> simp [endWaitFree, waitEnded, h, actChanged, send, setAct, onAch]

theorem endWaitFault_fault {c : ActCause} (h : (act a s).InFault) :
    endWaitFault a c s = actChanged a (waitEnded (act a s)) [.freed a] s := by
  obtain ⟨c, h⟩ := h
  simp [endWaitFault, waitEnded, h, actChanged, send, setAct, onAch]

theorem endWaitFault_serving {c : ActCause} (h : (act a s).Serving) : endWaitFault a c s =
    actChanged a { waitEnded (act a s) with state := .fault c } [.freed a, .attentionEventReport .actFault] s := by
  rcases h with h | h <;> simp [endWaitFault, waitEnded, h, actChanged, send, raise, setAct, onAch]

/-- A report during a free wait: CARD_FAULT ends it in FAULT, a current FREE ends it, any other lets it stand. -/
theorem judgeFreeWait_card (h : rep.status = .cardFault) : judgeFreeWait a rep s = endWaitFault a .card s := if_pos h

theorem judgeFreeWait_free (h : rep.status = .free ∧ rep.echo = (act a s).lastTag) :
    judgeFreeWait a rep s = endWaitFree a s := by
  rw [judgeFreeWait, if_neg (by simp [h.1]), if_pos h]

theorem judgeFreeWait_stands (hc : rep.status ≠ .cardFault) (hf : ¬ (rep.status = .free ∧ rep.echo = (act a s).lastTag)) :
    judgeFreeWait a rep s = s := by
  rw [judgeFreeWait, if_neg hc, if_neg hf]

/-! ### The judgement outside the drive -/

section
variable {b : Bool}

theorem judgeReport_rest (h : (act a s).state = .off ∨ (act a s).state = .standby) : judgeReport a rep b s = s := by
  rcases h with h | h <;> simp [judgeReport, h]

theorem judgeReport_wait (h : (act a s).Serving ∨ (act a s).InFault) (hw : (act a s).freeWait = true) :
    judgeReport a rep b s = judgeFreeWait a rep s := by
  rcases h with (h | h) | ⟨c, h⟩ <;> simp [judgeReport, h, hw]

theorem judgeReport_fault (h : (act a s).InFault) (hw : (act a s).freeWait = false) :
    judgeReport a rep b s = if b && needsLateHold rep.status then sendHold a s else s := by
  obtain ⟨c, h⟩ := h
  simp [judgeReport, h, hw]

end

/-- The late HOLD goes to a card still moving. -/
theorem needsLateHold_iff {st : CardStatus} :
    needsLateHold st = true ↔ st = .ramping ∨ st = .settled ∨ st = .cardFault := by
  simp [needsLateHold, or_assoc]

/-- R37 judges the report that makes the link LIVE with the hold owed. -/
theorem settlesHold_iff {r : Actuator} : settlesHold r = true ↔ r.link ≠ .live ∧ r.holdOwed = true := by
  simp [settlesHold]

/-- Everything a HOLD to a record just changed does. -/
theorem sendHold_actChanged (x : Actuator) (ms : List Instr) : sendHold a (actChanged a x ms s) =
    { actChanged a { x with lastTag := x.lastTag + 1 } ms s with
      sent := s.sent ++ [⟨.drive a, sealUnit [0x02, x.lastTag + 1]⟩] } := by
  simp [sendHold, actChanged, setAct, onAch, transmit, nextTag, holdUnit, act]

/-- Settles O31: the unit's bytes, and one outcome of the judgement, on the record as stored, per state. -/
theorem reportInTheOtherStates : Obligations.ReportInTheOtherStates := by
  refine ⟨sealUnit_eq, fun unit rep => ?reads, fun a unit s hs hp => ?bad, ?good⟩
  case reads => simp only [parseReport_eq_some_iff, cardStatusOf_eq_some_iff]; rfl
  case bad => exact congrArg Host.Outcome.next ((unlessHeld_free _ hs).trans (takeReport_bad hp))
  case good =>
    intro a unit rep s hs hp r inFault r1 back keep moving isFree ended
    have taken : exec (.report a unit) s = .next (judgeReport a rep (settlesHold r) (actChanged a r1 back s)) :=
      congrArg Host.Outcome.next ((unlessHeld_free _ hs).trans (takeReport_good hp))
    have hact : act a (actChanged a r1 back s) = r1 := act_actChanged _ _
    have kept : ∀ x ms, actChanged a x (back ++ ms) s = keep x ms := fun x ms => by simp [keep, actChanged]
    have kept1 : actChanged a r1 back s = keep r1 [] := by rw [← kept, List.append_nil]
    have hf : inFault → (act a (actChanged a r1 back s)).InFault := fun h => by
      rw [hact]; exact mem_faults_iff.1 h
    have hsv : r.state = .driven ∨ r.state = .holding → (act a (actChanged a r1 back s)).Serving :=
      fun h => by rw [hact]; exact h
    have hfree : isFree → rep.status = .free ∧ rep.echo = (act a (actChanged a r1 back s)).lastTag := fun h => by
      rw [hact]; exact h
    have hfree' : ¬ isFree → ¬ (rep.status = .free ∧ rep.echo = (act a (actChanged a r1 back s)).lastTag) := fun h => by
      rw [hact]; exact h
    rw [taken]
    refine ⟨fun h => ?rest, fun h hw => ⟨fun hm => ?notOwed, fun hl ho hm => ?owed⟩,
      fun h hw => ⟨fun he => ?faultEnds, fun hc hn => ?faultStands⟩,
      fun h hw => ⟨fun hc => ?card, fun hn => ?free, fun hc hn => ?stands⟩⟩
    case rest => rw [judgeReport_rest (by rw [hact]; exact h), kept1]
    case notOwed =>
      have hn : ¬ (settlesHold r && needsLateHold rep.status) = true := by
        rw [Bool.and_eq_true, settlesHold_iff, needsLateHold_iff]
        rintro ⟨⟨hl, ho⟩, hm'⟩
        rcases hm with hm | hm | hm
        · exact hl hm
        · simp [hm] at ho
        · exact hm hm'
      rw [judgeReport_fault (hf h) (by rw [hact]; exact hw), if_neg hn, kept1]
    case owed =>
      rw [judgeReport_fault (hf h) (by rw [hact]; exact hw), if_pos, sendHold_actChanged]
      · simp only [keep, actChanged, List.append_nil]
        rfl
      · rw [Bool.and_eq_true, settlesHold_iff, needsLateHold_iff]
        exact ⟨⟨hl, ho⟩, hm⟩
    case faultEnds =>
      have ends : judgeFreeWait a rep (actChanged a r1 back s) =
          actChanged a (waitEnded r1) [.freed a] (actChanged a r1 back s) := by
        by_cases hc : rep.status = .cardFault
        · rw [judgeFreeWait_card hc, endWaitFault_fault (hf h), hact]
        · rw [judgeFreeWait_free (hfree (he.resolve_left hc)), endWaitFree_fault (hf h), hact]
      rw [judgeReport_wait (.inr (hf h)) (by rw [hact]; exact hw), ends, actChanged_actChanged, kept]
      rfl
    case faultStands =>
      rw [judgeReport_wait (.inr (hf h)) (by rw [hact]; exact hw), judgeFreeWait_stands hc (hfree' hn), kept1]
    case card =>
      rw [judgeReport_wait (.inl (hsv h)) (by rw [hact]; exact hw), judgeFreeWait_card hc, endWaitFault_serving (hsv h),
        actChanged_actChanged, kept, hact]
      rfl
    case free =>
      rw [judgeReport_wait (.inl (hsv h)) (by rw [hact]; exact hw), judgeFreeWait_free (hfree hn),
        endWaitFree_serving (hsv h), actChanged_actChanged, kept, hact]
      rfl
    case stands =>
      rw [judgeReport_wait (.inl (hsv h)) (by rw [hact]; exact hw), judgeFreeWait_stands hc (hfree' hn), kept1]

/-! ### Timers (R30, R34, R35) -/

/-- Fault entry of a record just changed, on a link not LIVE. -/
theorem enterFault_actChanged_notLive {x : Actuator} (ms : List Instr) (c : ActCause) (hl : x.link ≠ .live) :
    enterFault a c (actChanged a x ms s) = actChanged a { x with
      state := .fault c, settleTimer := none, settledMark := false, holdOwed := true }
      (ms ++ [.actFault a c, .attentionEventReport .actFault]) s := by
  rw [enterFault_notLive c (by rw [act_actChanged]; exact hl), act_actChanged]
  simp [actChanged]

theorem oweHold_actChanged (x : Actuator) (ms : List Instr) :
    oweHold a (actChanged a x ms s) = actChanged a { x with holdOwed := true } ms s := by
  rw [oweHold, act_actChanged, setAct_actChanged]

section
variable (h : (act a s).reportTimer ≠ none)
include h

theorem takeReportTimerExpiry_serving (hs : (act a s).Serving) : takeReportTimerExpiry a s =
    if (act a s).freeWait then endWaitFree a (loseLink a s) else enterFault a .link (loseLink a s) := by
  rcases hs with hs | hs <;> simp only [takeReportTimerExpiry, if_neg h, hs]

theorem takeReportTimerExpiry_fault (hs : (act a s).InFault) : takeReportTimerExpiry a s =
    if (act a s).freeWait then oweHold a (endWaitFree a (loseLink a s)) else loseLink a s := by
  obtain ⟨c, hs⟩ := hs
  simp only [takeReportTimerExpiry, if_neg h, hs]

theorem takeReportTimerExpiry_rest (hs : (act a s).state = .off ∨ (act a s).state = .standby) :
    takeReportTimerExpiry a s = loseLink a s := by
  rcases hs with hs | hs <;> simp only [takeReportTimerExpiry, if_neg h, hs]

end

/-- The settle timer of a DRIVEN actuator. -/
theorem takeSettleTimerExpiry_driven (h : (act a s).settleTimer ≠ none) (hst : (act a s).state = .driven) :
    takeSettleTimerExpiry a s = enterFault a .slow (actChanged a { act a s with settleTimer := none } [] s) := by
  rw [takeSettleTimerExpiry, if_neg h, if_pos hst]
  simp [actChanged, setAct, onAch]

/-- The free timer of a free wait. -/
theorem takeFreeTimerExpiry_waiting (h : (act a s).freeTimer ≠ none) (hw : (act a s).freeWait = true) :
    takeFreeTimerExpiry a s = endWaitFault a .slow s := by
  rw [takeFreeTimerExpiry, if_neg h, if_pos hw]

/-- Settles O32: each clause is one outcome of an expiry. -/
theorem actuatorTimersExpire : Obligations.ActuatorTimersExpire := by
  intro a s hs r inFault serving put lost lostMsg
  have hf : inFault → (act a s).InFault := mem_faults_iff.1
  have lose : loseLink a s = actChanged a lost [lostMsg] s := rfl
  have hact : act a (loseLink a s) = lost := act_actChanged _ _
  have report : exec (.reportTimerExpiry a) s = .next (takeReportTimerExpiry a s) :=
    congrArg Host.Outcome.next (unlessHeld_free _ hs)
  have settling : exec (.settleTimerExpiry a) s = .next (takeSettleTimerExpiry a s) :=
    congrArg Host.Outcome.next (unlessHeld_free _ hs)
  have freeing : exec (.freeTimerExpiry a) s = .next (takeFreeTimerExpiry a s) :=
    congrArg Host.Outcome.next (unlessHeld_free _ hs)
  rw [report, settling, freeing]
  refine ⟨fun h => congrArg _ (if_pos h), fun h => ⟨fun hv hw => ?faults, fun hv hw => ?frees, fun hv hw => ?owes,
    fun hv => ?loses⟩, fun h => congrArg _ (if_pos h), fun h hst hl => ?slow, fun h => congrArg _ (if_pos h),
    fun h hw => ⟨fun hv => ?slowWait, fun hv => ?faultWait⟩⟩
  case faults =>
    rw [takeReportTimerExpiry_serving h hv, if_neg (ne_true_of_eq_false hw), lose,
      enterFault_actChanged_notLive (x := lost) _ _ LinkState.noConfusion]
    rfl
  case frees =>
    rw [takeReportTimerExpiry_serving h hv, if_pos hw, endWaitFree_serving (by rw [hact]; exact hv), hact, lose,
      actChanged_actChanged]
    rfl
  case owes =>
    rw [takeReportTimerExpiry_fault h (hf hv), if_pos hw, endWaitFree_fault (by rw [hact]; exact hf hv), hact,
      lose, actChanged_actChanged, oweHold_actChanged]
    rfl
  case loses =>
    rcases hv with hv | hv | ⟨hv, hw⟩
    · rw [takeReportTimerExpiry_rest h (.inl hv)]; rfl
    · rw [takeReportTimerExpiry_rest h (.inr hv)]; rfl
    · rw [takeReportTimerExpiry_fault h (hf hv), if_neg (ne_true_of_eq_false hw)]; rfl
  case slow =>
    rw [takeSettleTimerExpiry_driven h hst, enterFault_actChanged (x := { r with settleTimer := none }) _ _ hl]
    rfl
  case slowWait => rw [takeFreeTimerExpiry_waiting h hw, endWaitFault_serving hv]; rfl
  case faultWait => rw [takeFreeTimerExpiry_waiting h hw, endWaitFault_fault (hf hv)]; rfl

end Sys2Proof.Machine
end

section
/-! Host writes on the load side (R21, R42, R80, R92, R197): an actuator's fields, the standby bank's, the settings of ACH
and LSQ. -/
namespace Sys2Proof.Machine

variable {s t : State} {y : State × Option Reason} {ok : Prop} {b : Bool}

/-! ### The shapes of a field write -/

/-- A write checked by its range alone. -/
theorem ranged_write {p : Prop} [Decidable p] (hy : y = if p then (t, none) else (s, some .range)) (h : p ↔ ok) :
    (ok → y = (t, none)) ∧ (¬ ok → y = (s, some .range)) := by
  subst hy
  exact ⟨fun hok => if_pos (h.2 hok), fun hok => if_neg (mt h.1 hok)⟩

/-- The same for a field with a range of naturals. -/
theorem ranged_write_nat {n lo hi : Nat} (hy : y = if inRange lo hi (n : Int) then (t, none) else (s, some .range)) :
    (lo ≤ n → n ≤ hi → y = (t, none)) ∧ (n < lo ∨ hi < n → y = (s, some .range)) := by
  have w := ranged_write hy (ok := lo ≤ n ∧ n ≤ hi) (by rw [inRange_iff]; omega)
  exact ⟨fun h1 h2 => w.1 ⟨h1, h2⟩, fun h => w.2 (by omega)⟩

/-- A write OFF and STANDBY alone take. -/
theorem rest_write {r : Actuator} (hy : y = restWrite r b s t) (h : b = true ↔ ok) :
    (¬ (r.state = .off ∨ r.state = .standby) → y = (s, some .state)) ∧
    (r.state = .off ∨ r.state = .standby → ok → y = (t, none)) ∧
    (r.state = .off ∨ r.state = .standby → ¬ ok → y = (s, some .range)) := by
  subst hy
  unfold restWrite
  refine ⟨fun hr => if_pos (not_or.1 hr), fun hr hok => ?taken, fun hr hok => ?range⟩
  case taken => rw [if_neg fun ⟨h1, h2⟩ => hr.elim h1 h2, if_pos (h.2 hok)]
  case range => rw [if_neg fun ⟨h1, h2⟩ => hr.elim h1 h2, if_neg (mt h.1 hok)]

/-- A write to the standby bank: none while a swap is pending. -/
theorem bank_write (hy : y = if s.lsq.swapPending then (s, some .swapPending)
      else if b = false then (s, some .range) else (t, none)) (h : b = true ↔ ok) :
    (s.lsq.swapPending = true → y = (s, some .swapPending)) ∧
    (s.lsq.swapPending = false → ok → y = (t, none)) ∧
    (s.lsq.swapPending = false → ¬ ok → y = (s, some .range)) := by
  subst hy
  refine ⟨fun hp => if_pos hp, fun hp hok => ?taken, fun hp hok => ?range⟩
  case taken => rw [if_neg (ne_true_of_eq_false hp), if_neg (by simp [h.2 hok])]
  case range => rw [if_neg (ne_true_of_eq_false hp), if_pos (Bool.eq_false_iff.2 (mt h.1 hok))]

/-- A natural number and the number it is written as. -/
theorem inRange_nat {lo hi n : Nat} : inRange lo hi (n : Int) = true ↔ lo ≤ n ∧ n ≤ hi := by
  rw [inRange_iff]; omega

/-! ### Actuators (R21) -/

section
variable {a : Fin Config.actuators} {v : Word}

/-- A claim on an actuator reaches its record. -/
theorem writeCell_actuator (f : Nat) :
    writeCell .actuators a.val f v s = writeActuator a f (writtenNumber (WTable.signed .actuators f) v) s := by
  show writeRecord writeActuator a.val f _ s = _
  rw [writeRecord, Table.index?_val]

/-- The station: the state, the range, the other actuators. -/
theorem writeActuator_station {n : Nat} : writeActuator a 0 (n : Int) s =
    if (act a s).state ≠ .off ∧ (act a s).state ≠ .standby then (s, some .state)
    else if inRange 0 65000 (n : Int) = false then (s, some .range)
    else if (act a s).state = .standby ∧ stationTaken a n s = true then (s, some .station)
    else (storeActStation a n s, none) := rfl

theorem writeActuator_readOnly {f : Nat} {x : Int} (hf : f ∉ [0, 3, 4, 5, 6, 7, 8, 9]) :
    writeActuator a f x s = (s, some .readOnly) := by
  unfold writeActuator
  split
  case h_9 => rfl
  all_goals simp at hf

end

/-! ### The standby bank (R42) -/

section
variable {v : Word} {f : Nat}

/-- A claim on the standby bank reaches it. -/
theorem writeCell_standbyBank {i : Nat} : writeCell .standbyBank i f v s =
    writeStandbyBank f (writtenNumber (WTable.signed .standbyBank f) v) s := rfl

/-- A write to a field with a range. -/
theorem writeStandbyBank_ranged {lo hi x : Int} (hr : bankFieldRange f = some (lo, hi)) : writeStandbyBank f x s =
    if s.lsq.swapPending then (s, some .swapPending)
    else if inRange lo hi x = false then (s, some .range)
    else (onLsq (fun q => q.setBank q.active.other { storeBankField f x (q.bank q.active.other) with state := .editing }) s,
      none) := by
  simp only [writeStandbyBank, hr]

/-- The other fields take none. -/
theorem bankFieldRange_readOnly (hf : f = 0 ∨ 40 < f) : bankFieldRange f = none := by
  unfold bankFieldRange
  (repeat rw [if_neg (by omega)])

theorem bankFieldRange_cell {k : Nat} (hk : k < 16) : bankFieldRange (2 + k) = some (-32000, 32000) := by
  rw [bankFieldRange, if_neg (by omega), if_pos (by omega)]

theorem bankFieldRange_end {k : Nat} (hk : k < 14) : bankFieldRange (22 + k) = some (-32000, 32000) := by
  unfold bankFieldRange
  rw [if_neg (by omega), if_neg (by omega), if_neg (by omega), if_neg (by omega), if_pos (by omega)]

theorem storeBankField_cell {k : Nat} {x : Int} {b : Bank} (hk : k < 16) :
    storeBankField (2 + k) x b = { b with cells := b.cells.setD k x } := by
  rw [storeBankField, if_neg (by omega), if_pos (by omega), Nat.add_sub_cancel_left]

theorem storeBankField_end {k : Nat} {x : Int} {b : Bank} (hk : k < 14) :
    storeBankField (22 + k) x b = { b with ends := b.ends.setD k x } := by
  unfold storeBankField
  rw [if_neg (by omega), if_neg (by omega), if_neg (by omega), if_neg (by omega), if_neg (by omega), if_neg (by omega),
    if_pos (by omega), Nat.add_sub_cancel_left]

end

/-! ### Settings -/

/-- No setting stands in any other field. -/
theorem writeSetting_readOnly {f : Nat} {x : Int}
    (hf : f ∉ [0, 2, 3, 4, 5, 6, 7, 13, 18, 19, 20, 21, 22, 23, 24, 25, 26, 27]) :
    writeSetting f x s = (s, some .readOnly) := by
  simp only [List.mem_cons, List.not_mem_nil, or_false, not_or] at hf
  unfold writeSetting
  (repeat rw [if_neg (by omega)])

/-- Settles O34: each field has one of the shapes of a write, with the range the field states. -/
theorem loadSideFieldWrites : Obligations.LoadSideFieldWrites := by
  refine ⟨?actuators, ?bank, ?settings⟩
  case actuators =>
    intro a v s r n x rest put atRest always shared
    have ht : stationTaken a n s = true ↔ shared := stationTaken_iff
    have atNat : ∀ f, WTable.signed .actuators f = false → writeCell .actuators a.val f v s = writeActuator a f n s :=
      fun f h => by rw [writeCell_actuator, h]; rfl
    have atInt : ∀ f, WTable.signed .actuators f = true → writeCell .actuators a.val f v s = writeActuator a f x s :=
      fun f h => by rw [writeCell_actuator, h]; rfl
    have atStation : writeCell .actuators a.val 0 v s = _ := (atNat 0 rfl).trans writeActuator_station
    have inside : n ≤ 65000 → ¬ inRange 0 65000 (n : Int) = false := fun h =>
      ne_of_eq_of_ne (inRange_nat.2 ⟨Nat.zero_le n, h⟩) Bool.noConfusion
    have resting : rest → ¬ ((act a s).state ≠ .off ∧ (act a s).state ≠ .standby) := fun hr h => hr.elim h.1 h.2
    rw [atStation]
    refine ⟨fun hr => if_pos (not_or.1 hr), fun hr hn => ?range, fun hr hn hsh => ?taken, fun hr hn hsh => ?stored,
      rest_write (atNat 3 rfl) ?compLimit, rest_write (atInt 4 rfl) ?tensLimit, rest_write (atInt 5 rfl) ?restLoad,
      ranged_write (atNat 6 rfl) inRange_nat, ranged_write (atNat 7 rfl) ?settleAllow,
      rest_write (atInt 8 rfl) ?strokeMin, rest_write (atInt 9 rfl) ?strokeMax, fun f hf => ?readOnly⟩
    case range => rw [if_neg (resting hr), if_pos (inRange_eq_false_iff.2 (by omega))]
    case taken => rw [if_neg (resting (.inr hr)), if_neg (inside hn), if_pos ⟨hr, ht.2 hsh⟩]
    case stored =>
      rw [if_neg (resting hr), if_neg (inside hn), if_neg]
      · rfl
      · rintro ⟨hst, hs'⟩
        rcases hsh with h | h
        · exact absurd (hst.symm.trans h) ActState.noConfusion
        · exact h (ht.1 hs')
    case compLimit =>
      rw [Bool.and_eq_true, decide_eq_true_iff]
      exact and_congr_left' (inRange_nat.trans (and_iff_right n.zero_le))
    case tensLimit => rw [Bool.and_eq_true, inRange_iff, decide_eq_true_iff]; exact and_assoc
    case restLoad => exact inRange_iff
    case settleAllow => exact inRange_nat.trans (and_iff_right n.zero_le)
    case strokeMin => rw [Bool.and_eq_true, inRange_iff, decide_eq_true_iff]; exact and_assoc
    case strokeMax => rw [Bool.and_eq_true, inRange_iff, decide_eq_true_iff]; exact and_assoc
    case readOnly => rw [writeCell_actuator, writeActuator_readOnly hf]
  case bank =>
    intro v s b n x field force
    have ofNat : ∀ {f lo hi : Nat} {ok : Prop} {y : Bank}, WTable.signed .standbyBank f = false →
        bankFieldRange f = some ((lo : Int), (hi : Int)) → (lo ≤ n ∧ n ≤ hi ↔ ok) → (ok → storeBankField f n b = y) →
        field f ok y := by
      intro f lo hi ok y hu hr hok hy
      have read := (congrArg (fun g => writeStandbyBank f (writtenNumber g v) s) hu).trans (writeStandbyBank_ranged hr)
      obtain ⟨pending, taken, range⟩ := bank_write (y := writeCell .standbyBank 0 f v s) read (inRange_nat.trans hok)
      exact ⟨pending, fun hp h => hy h ▸ taken hp h, range⟩
    have ofInt : ∀ {f : Nat} {y : Bank}, WTable.signed .standbyBank f = true →
        bankFieldRange f = some (-32000, 32000) → storeBankField f x b = y → field f force y := by
      intro f y hu hr hy
      refine bank_write (b := inRange (-32000) 32000 x) ?_ inRange_iff
      rw [← hy, writeCell_standbyBank, hu]
      exact writeStandbyBank_ranged hr
    have unsigned : ∀ hi, 0 ≤ n ∧ n ≤ hi ↔ n ≤ hi := fun hi => and_iff_right (Nat.zero_le n)
    have signedCell : ∀ k, k < 16 → WTable.signed .standbyBank (2 + k) = true := by decide
    have signedEnd : ∀ k, k < 14 → WTable.signed .standbyBank (22 + k) = true := by decide
    refine ⟨ofNat rfl rfl Iff.rfl fun _ => rfl,
      fun k hk => ofInt (signedCell k hk) (bankFieldRange_cell hk) (storeBankField_cell hk), ofInt rfl rfl rfl,
      ofNat rfl rfl (unsigned 7) fun _ => rfl, ofNat rfl rfl (unsigned 7) fun _ => rfl,
      ofNat rfl rfl (unsigned 14) fun _ => rfl,
      fun k hk => ofInt (signedEnd k hk) (bankFieldRange_end hk) (storeBankField_end hk),
      ofNat rfl rfl Iff.rfl fun _ => rfl, ofNat rfl rfl Iff.rfl fun _ => rfl,
      ofNat rfl rfl (unsigned 1) fun _ => ?dir, ofNat rfl rfl (unsigned 1) fun h => ?shuttle,
      ofNat rfl rfl ?target fun _ => rfl, fun f hf => ?readOnly, fun f => rfl⟩
    case dir =>
      show { b with dir := if (n : Int) = 0 then _ else _ } = _
      simp only [Int.natCast_eq_zero]
    case shuttle =>
      show { b with shuttle := decide ((n : Int) ≠ 0) } = _
      have : (n : Int) ≠ 0 ↔ n = 1 := by omega
      simp only [this]
    case target => exact iff_true_intro ⟨n.zero_le, Nat.le_of_lt_succ v.isLt⟩
    case readOnly =>
      show writeStandbyBank f _ s = _
      rw [writeStandbyBank, bankFieldRange_readOnly hf]
  case settings =>
    intro v s n field
    refine ⟨ranged_write_nat rfl, ranged_write_nat rfl, ranged_write_nat rfl, ranged_write_nat rfl, ?auto,
      ranged_write_nat rfl, fun f hf => writeSetting_readOnly hf⟩
    case auto =>
      have zero : decide (n = 0) = decide ((n : Int) = 0) := by simp
      simp only [field, zero]
      exact ranged_write_nat rfl

end Sys2Proof.Machine
end

section
/-! Host writes on the watch side (R91, R92, R128, R133, R134, R150, R151): the fields of gauge, loop, sensor and crack
records, and the settings of GSC and CWU. -/
namespace Sys2Proof.Machine

variable {s t : State} {y : State × Option Reason} {v : Word} {f : Nat} {x : Int}

/-! ### Gauges (R91) -/

section
variable {i : Fin Config.gauges}

/-- A claim on a gauge reaches its record. -/
theorem writeCell_gauge (f : Nat) :
    writeCell .gauges i.val f v s = writeGauge i f (writtenNumber (WTable.signed .gauges f) v) s := by
  show writeRecord writeGauge i.val f _ s = _
  rw [writeRecord, Table.index?_val]

/-- A field of a limit set, checked by the member's range and the set's relation. -/
theorem limit_write {p ok : Prop} [Decidable p] {o : Option LimitSet} {l : LimitSet} {put : LimitSet → State}
    (hy : y = o.elim (s, some .range) fun l => (put l, none)) (ho : o = if p then some l else none) (h : p ↔ ok) :
    (ok → y = (put l, none)) ∧ (¬ ok → y = (s, some .range)) := by
  subst hy ho
  exact ⟨fun hok => by rw [if_pos (h.2 hok)]; rfl, fun hok => by rw [if_neg (mt h.1 hok)]; rfl⟩

/-- The fields of set A. -/
theorem writeOpenGauge_setA {j : Nat} (hj : j < 5) : writeOpenGauge i (10 + j) x s =
    (writeLimit j x (gauge i s).setA).elim (s, some .range) fun l => (setGauge i { gauge i s with setA := l } s, none) := by
  unfold writeOpenGauge
  dsimp only
  rw [if_neg (by omega), if_neg (by omega), if_neg (by omega), if_neg (by omega), if_pos (by omega),
    Nat.add_sub_cancel_left]
  cases writeLimit j x (gauge i s).setA <;> rfl

/-- The fields of set B. -/
theorem writeOpenGauge_setB {j : Nat} (hj : j < 5) : writeOpenGauge i (15 + j) x s =
    (writeLimit j x (gauge i s).setB).elim (s, some .range) fun l => (setGauge i { gauge i s with setB := l } s, none) := by
  unfold writeOpenGauge
  dsimp only
  rw [if_neg (by omega), if_neg (by omega), if_neg (by omega), if_neg (by omega), if_neg (by omega), if_pos (by omega),
    Nat.add_sub_cancel_left]
  cases writeLimit j x (gauge i s).setB <;> rfl

/-- A range and the set's relation. -/
theorem rangedRelated_iff {lo hi : Int} {l : LimitSet} : (inRange lo hi x && l.related) = true ↔
    lo ≤ x ∧ x ≤ hi ∧ l.lower + 2 * l.hyst < l.upper := by
  rw [Bool.and_eq_true, inRange_iff, LimitSet.related, decide_eq_true_iff, and_assoc]

/-- The key fields take a write in SUSPENDED alone. -/
theorem writeOpenGauge_key_state (hf : f = 1 ∨ f = 2) (hst : (gauge i s).state ≠ .suspended) :
    writeOpenGauge i f x s = (s, some .state) := by
  rcases hf with rfl | rfl <;> exact if_pos hst

/-- The scanner field. -/
theorem writeOpenGauge_scanner {n : Nat} (hst : (gauge i s).state = .suspended) : writeOpenGauge i 1 (n : Int) s =
    (Table.index? Config.scanners n).elim (s, some .range) fun k => writeKey i k (gauge i s).channel s := by
  refine (if_neg (not_not.2 hst)).trans ?_
  rw [if_pos (Int.natCast_nonneg n), Int.toNat_natCast]
  cases Table.index? Config.scanners n <;> rfl

/-- The channel field. -/
theorem writeOpenGauge_channel {n : Nat} (hst : (gauge i s).state = .suspended) : writeOpenGauge i 2 (n : Int) s =
    (Table.index? Config.channels n).elim (s, some .range) fun ch => writeKey i (gauge i s).scanner ch s := by
  refine (if_neg (not_not.2 hst)).trans ?_
  rw [if_pos (Int.natCast_nonneg n), Int.toNat_natCast]
  cases Table.index? Config.channels n <;> rfl

section
variable {k : Fin Config.scanners} {ch : Fin Config.channels}

/-- The record's own key. -/
theorem writeKey_own (h : gaugeAt k ch.val s = some i) : writeKey i k ch s = (s, none) := by
  simp [writeKey, h]

/-- A key another open record holds. -/
theorem writeKey_inUse {j : Fin Config.gauges} (h : gaugeAt k ch.val s = some j) (hj : j ≠ i) :
    writeKey i k ch s = (s, some .keyInUse) := by
  simp [writeKey, h, hj]

/-- A key no record holds: the record moves to it. -/
theorem writeKey_free (h : gaugeAt k ch.val s = none) : writeKey i k ch s = (setMap k ch (some i)
    (setMap (gauge i s).scanner (gauge i s).channel none
      (setGauge i { gauge i s with scanner := k, channel := ch } s)), none) := by
  simp only [writeKey, h]

end

theorem writeOpenGauge_readOnly (hf : f ∈ [0, 4, 5, 6, 8, 9] ∨ (20 ≤ f ∧ f ≤ 32) ∨ 34 < f) :
    writeOpenGauge i f x s = (s, some .readOnly) := by
  simp only [List.mem_cons, List.not_mem_nil, or_false] at hf
  simp only [writeOpenGauge]
  (repeat rw [if_neg (by omega)])

end

/-! ### Loops (R128) -/

section
variable {l : Fin Config.loops}

/-- A claim on a loop reaches its record. -/
theorem writeCell_loop (f : Nat) : writeCell .loops l.val f v s = writeLoop l f (v.toNat : Int) s := by
  show writeRecord writeLoop l.val f _ s = _
  rw [writeRecord, Table.index?_val]
  rfl

theorem writeLoop_readOnly (h0 : f ≠ 0) (h3 : f ≠ 3) : writeLoop l f x s = (s, some .readOnly) := by
  unfold writeLoop
  split
  · exact absurd rfl h0
  · exact absurd rfl h3
  · rfl

end

/-! ### Sensors (R133) -/

section
variable {c : Fin Config.sensors} {n : Nat}

/-- A claim on a sensor reaches its record. -/
theorem writeCell_sensor (f : Nat) : writeCell .sensors c.val f v s = writeSensor c f (v.toNat : Int) s := by
  show writeRecord writeSensor c.val f _ s = _
  rw [writeRecord, Table.index?_val]
  rfl

/-- A station is taken exactly where another enabled sensor stands there. -/
theorem sensorStationTaken_iff : sensorStationTaken c n s = true ↔
    ∃ d, d ≠ c ∧ (sensor d s).enabled = true ∧ (sensor d s).station = n := by
  simp [sensorStationTaken, mem_indices, and_assoc]

/-- The station: the range, the other sensors. -/
theorem writeSensor_station : writeSensor c 0 (n : Int) s = if inRange 0 65000 (n : Int) = false then (s, some .range)
    else if (sensor c s).enabled = true ∧ sensorStationTaken c n s = true then (s, some .station)
    else (storeSensorStation c n s, none) := rfl

/-- The enabled flag: the range, the other sensors where it is turned on. -/
theorem writeSensor_enabled : writeSensor c 2 (n : Int) s = if inRange 0 1 (n : Int) = false then (s, some .range)
    else if (n : Int) = 1 ∧ (sensor c s).enabled = false ∧ sensorStationTaken c (sensor c s).station s = true then
      (s, some .station)
    else (storeSensorEnabled c (decide ((n : Int) = 1)) s, none) := rfl

theorem writeSensor_readOnly (h0 : f ≠ 0) (h2 : f ≠ 2) : writeSensor c f x s = (s, some .readOnly) := by
  unfold writeSensor
  split
  · exact absurd rfl h0
  · exact absurd rfl h2
  · rfl

/-- The sensor's record replaced, its hits forgotten or kept. -/
def sensorPut (c : Fin Config.sensors) (r : Sensor) (forget : Bool) (s : State) : State :=
  { s with cwu := { s.cwu with
    sensors := s.cwu.sensors.set c r
    hits := if forget then s.cwu.hits.filter fun h => h.sensor != c else s.cwu.hits } }

theorem storeSensorStation_eq : storeSensorStation c n s = sensorPut c
    { sensor c s with station := n, zone := decodeStation n s } ((sensor c s).enabled && (sensor c s).station != n) s := by
  unfold storeSensorStation sensorPut
  dsimp only
  have forgets : ((sensor c s).enabled = true ∧ (sensor c s).station ≠ n) ↔
      ((sensor c s).enabled && (sensor c s).station != n) = true := by simp
  simp only [forgets]
  split <;> rfl

theorem storeSensorEnabled_on : storeSensorEnabled c true s = sensorPut c { sensor c s with enabled := true } false s := by
  rw [storeSensorEnabled, if_neg (by simp)]
  rfl

theorem storeSensorEnabled_off :
    storeSensorEnabled c false s = sensorPut c { sensor c s with enabled := false } (sensor c s).enabled s := by
  unfold storeSensorEnabled sensorPut
  simp only [and_true]
  split <;> rfl

end

/-! ### Cracks (R151) -/

section
variable {i : Fin Config.cracks}

/-- A claim on a crack reaches its record. -/
theorem writeCell_crack (f : Nat) : writeCell .cracks i.val f v s = writeCrack i f (v.toNat : Int) s := by
  show writeRecord writeCrack i.val f _ s = _
  rw [writeRecord, Table.index?_val]
  rfl

theorem writeCrack_vacant (h : (crack i s).state = .vacant) : writeCrack i f x s = (s, some .vacant) := if_pos h

theorem writeCrack_readOnly (h : (crack i s).state ≠ .vacant) (h9 : f ≠ 9) (h23 : f ≠ 23) :
    writeCrack i f x s = (s, some .readOnly) := by
  simp only [writeCrack, if_neg h, if_neg h9, if_neg h23]

/-- The note, of a record not VACANT. -/
theorem writeCrack_note (h : (crack i s).state ≠ .vacant) : writeCrack i 23 x s =
    if inRange 0 65535 x then (setCrack i { crack i s with note := x.toNat } s, none) else (s, some .range) := if_neg h

theorem writeCrack_derate_suspect (h : (crack i s).state = .suspect) : writeCrack i 9 x s = (s, some .state) :=
  (if_neg (by simp [h])).trans (if_pos h)

/-- The derate, of a record past SUSPECT. -/
theorem writeCrack_derate (h : (crack i s).state = .confirmed ∨ (crack i s).state = .arrested) : writeCrack i 9 x s =
    if inRange 0 100 x then (setCrack i { crack i s with derate := x.toNat } s, none) else (s, some .range) := by
  have hv : (crack i s).state ≠ .vacant := by rcases h with h | h <;> simp [h]
  have hs : (crack i s).state ≠ .suspect := by rcases h with h | h <;> simp [h]
  exact (if_neg hv).trans (if_neg hs)

end

/-- Settles O59: each field has one of the shapes of a write, with the range the field states. -/
theorem watchSideFieldWrites : Obligations.WatchSideFieldWrites := by
  refine ⟨?gauges, ?loops, ?sensors, ?cracks, ?settings⟩
  case gauges =>
    intro i v s g n x write put field related limits
    have atOpen : g.state ≠ .vacant → ∀ f,
        write f = writeOpenGauge i f (writtenNumber (WTable.signed .gauges f) v) s := fun h f =>
      (writeCell_gauge f).trans (if_neg h)
    refine ⟨fun h f => (writeCell_gauge f).trans (if_pos h), fun h => ?_⟩
    have key1 : g.state = .suspended → write 1 = (Table.index? Config.scanners n).elim (s, some .range) fun k =>
        writeKey i k g.channel s := fun hs => (atOpen h 1).trans (writeOpenGauge_scanner hs)
    have key2 : g.state = .suspended → write 2 = (Table.index? Config.channels n).elim (s, some .range) fun ch =>
        writeKey i g.scanner ch s := fun hs => (atOpen h 2).trans (writeOpenGauge_channel hs)
    have setA : ∀ {j : Nat} {p ok : Prop} [Decidable p] {l : LimitSet}, j < 5 →
        writeLimit j (writtenNumber (WTable.signed .gauges (10 + j)) v) g.setA = (if p then some l else none) →
        (p ↔ ok) → field (10 + j) ok { g with setA := l } := fun hj ho hp =>
      limit_write (put := fun l => setGauge i { g with setA := l } s) ((atOpen h _).trans (writeOpenGauge_setA hj)) ho hp
    have setB : ∀ {j : Nat} {p ok : Prop} [Decidable p] {l : LimitSet}, j < 5 →
        writeLimit j (writtenNumber (WTable.signed .gauges (15 + j)) v) g.setB = (if p then some l else none) →
        (p ↔ ok) → field (15 + j) ok { g with setB := l } := fun hj ho hp =>
      limit_write (put := fun l => setGauge i { g with setB := l } s) ((atOpen h _).trans (writeOpenGauge_setB hj)) ho hp
    have percent : ((n : Int) = 50 ∨ (n : Int) = 60 ∨ (n : Int) = 70 ∨ (n : Int) = 80 ∨ (n : Int) = 90) ↔
        n ∈ [50, 60, 70, 80, 90] := by
      simp only [List.mem_cons, List.not_mem_nil, or_false]
      omega
    have hysteresis : ∀ l : LimitSet, (inRange 0 1000 (n : Int) && { l with hyst := n }.related) = true ↔
        n ≤ 1000 ∧ related { l with hyst := n } := fun l => by
      rw [Bool.and_eq_true, LimitSet.related, decide_eq_true_iff]
      exact and_congr_left' (inRange_nat.trans (and_iff_right n.zero_le))
    refine ⟨fun f hf hs => (atOpen h f).trans (writeOpenGauge_key_state hf hs), fun hs hn => ?scanner,
      fun hs hn => ?channel, fun f k ch hs hf => ?key,
      ranged_write (atOpen h 3) (inRange_nat.trans (and_iff_right n.zero_le)), ranged_write (atOpen h 7) inRange_iff,
      ⟨setA (j := 0) (by decide) rfl rangedRelated_iff, setA (j := 1) (by decide) rfl rangedRelated_iff,
        setA (j := 2) (by decide) rfl percent, setA (j := 3) (by decide) rfl (hysteresis _),
        setA (j := 4) (by decide) rfl inRange_nat⟩,
      ⟨setB (j := 0) (by decide) rfl rangedRelated_iff, setB (j := 1) (by decide) rfl rangedRelated_iff,
        setB (j := 2) (by decide) rfl percent, setB (j := 3) (by decide) rfl (hysteresis _),
        setB (j := 4) (by decide) rfl inRange_nat⟩,
      ranged_write (atOpen h 33) inRange_iff,
      ranged_write (atOpen h 34) (inRange_nat.trans (and_iff_right n.zero_le)),
      fun f hf => (atOpen h f).trans (writeOpenGauge_readOnly hf)⟩
    case scanner => rw [key1 hs, Table.index?_ge hn]; rfl
    case channel => rw [key2 hs, Table.index?_ge hn]; rfl
    case key =>
      intro held
      have moves : write f = writeKey i k ch s := by
        rcases hf with ⟨rfl, hk, rfl⟩ | ⟨rfl, rfl, hch⟩
        · rw [key1 hs, hk, Table.index?_val]; rfl
        · rw [key2 hs, hch, Table.index?_val]; rfl
      rw [moves]
      exact ⟨fun e => writeKey_own ((gaugeAt_eq ch.isLt).trans e), fun j e hj => writeKey_inUse ((gaugeAt_eq ch.isLt).trans e) hj,
        fun e => writeKey_free ((gaugeAt_eq ch.isLt).trans e)⟩
  case loops =>
    intro l v s r n write put
    have at0 : write 0 = if r.state ≠ .unused then (s, some .state)
        else if inRange 0 65000 (n : Int) then put { r with station := n, zone := decodeStation n s }
        else (s, some .range) := writeCell_loop 0
    have at3 : write 3 = if (inRange 10 2550 (n : Int) && decide (n % 10 = 0)) = true then put { r with confirmTime := n }
        else (s, some .range) := writeCell_loop 3
    have time : (inRange 10 2550 (n : Int) && decide (n % 10 = 0)) = true ↔ 10 ≤ n ∧ n ≤ 2550 ∧ n % 10 = 0 := by
      rw [Bool.and_eq_true, decide_eq_true_iff]
      exact (and_congr_left' inRange_nat).trans and_assoc
    obtain ⟨taken, range⟩ := ranged_write at3 time
    rw [at0]
    refine ⟨fun h => if_pos h, fun h hn => ?range, fun h hn => ?stored, taken, range,
      fun f h0 h3 => (writeCell_loop f).trans (writeLoop_readOnly h0 h3)⟩
    case range => rw [if_neg (not_not.2 h), if_neg (by rw [inRange_iff]; omega)]
    case stored => rw [if_neg (not_not.2 h), if_pos (by rw [inRange_iff]; omega)]
  case sensors =>
    intro c v s r n write shared put
    have station : n ≤ 65000 → ¬ inRange 0 65000 (n : Int) = false := fun h => by rw [inRange_eq_false_iff]; omega
    have flag : n ≤ 1 → ¬ inRange 0 1 (n : Int) = false := fun h => by rw [inRange_eq_false_iff]; omega
    have at0 : write 0 = _ := (writeCell_sensor 0).trans writeSensor_station
    have at2 : write 2 = _ := (writeCell_sensor 2).trans writeSensor_enabled
    rw [at0, at2]
    refine ⟨fun hn => if_pos (inRange_eq_false_iff.2 (by omega)), fun hn he hsh => ?taken, fun hn h => ?stored, fun hn => if_pos (inRange_eq_false_iff.2 (by omega)),
      fun hn he hsh => ?onTaken, fun hn h => ?on, fun hn => ?off,
      fun f h0 h2 => (writeCell_sensor f).trans (writeSensor_readOnly h0 h2)⟩
    case taken => rw [if_neg (station hn), if_pos ⟨he, sensorStationTaken_iff.2 hsh⟩]
    case stored =>
      rw [if_neg (station hn), if_neg, storeSensorStation_eq]
      · rfl
      · rintro ⟨he, ht⟩
        rcases h with h | h
        · exact Bool.noConfusion (he.symm.trans h)
        · exact h (sensorStationTaken_iff.1 ht)
    case onTaken => rw [if_neg (flag hn.le), if_pos ⟨by omega, he, sensorStationTaken_iff.2 hsh⟩]
    case on =>
      rw [if_neg (flag hn.le), if_neg, decide_eq_true (by omega), storeSensorEnabled_on]
      · rfl
      · rintro ⟨-, he, ht⟩
        rcases h with h | h
        · exact Bool.noConfusion (he.symm.trans h)
        · exact h (sensorStationTaken_iff.1 ht)
    case off =>
      rw [if_neg (flag (by omega)), if_neg (by omega), decide_eq_false (by omega), storeSensorEnabled_off]
      rfl
  case cracks =>
    intro i v s r n write
    refine ⟨fun h f => (writeCell_crack f).trans (writeCrack_vacant h),
      fun h => (writeCell_crack 9).trans (writeCrack_derate_suspect h), fun h hn => ?derateRange,
      fun h hn => ?derate, fun h hn => ?noteRange, fun h hn => ?note,
      fun f h h9 h23 => (writeCell_crack f).trans (writeCrack_readOnly h h9 h23)⟩
    case derateRange => exact ((writeCell_crack 9).trans (writeCrack_derate h)).trans (if_neg (by rw [inRange_iff]; omega))
    case derate => exact ((writeCell_crack 9).trans (writeCrack_derate h)).trans (if_pos (inRange_iff.2 (by omega)))
    case noteRange => exact ((writeCell_crack 23).trans (writeCrack_note h)).trans (if_neg (by rw [inRange_iff]; omega))
    case note => exact ((writeCell_crack 23).trans (writeCrack_note h)).trans (if_pos (inRange_iff.2 (by omega)))
  case settings =>
    intro v s n field
    exact ⟨ranged_write_nat rfl, ranged_write_nat rfl, ranged_write_nat rfl, ranged_write_nat rfl, ranged_write_nat rfl,
      ranged_write_nat rfl, ranged_write_nat rfl, ranged_write_nat rfl, ranged_write_nat rfl, ranged_write_nat rfl,
      ranged_write_nat rfl⟩

end Sys2Proof.Machine
end

section
/-! The actuator line, pattern forces and targets (R44 to R46, R58), and validation (R47). -/
namespace Sys2Proof.Machine

/-! ### Lists in order of a key -/

section
variable {α : Type} {key : α → Nat}

theorem perm_insertBy (x : α) (xs : List α) : (insertBy key x xs).Perm (x :: xs) := by
  induction xs with
  | nil => exact .rfl
  | cons y ys ih =>
    unfold insertBy
    split
    · exact .rfl
    · exact (ih.cons y).trans (.swap x y ys)

theorem sorted_insertBy (x : α) {xs : List α} (h : xs.Pairwise fun a b => key a ≤ key b) :
    (insertBy key x xs).Pairwise fun a b => key a ≤ key b := by
  induction xs with
  | nil => exact List.pairwise_singleton ..
  | cons y ys ih =>
    obtain ⟨hy, hys⟩ := List.pairwise_cons.1 h
    unfold insertBy
    split
    · next hlt =>
      refine List.pairwise_cons.2 ⟨fun z hz => ?_, h⟩
      rcases List.mem_cons.1 hz with rfl | hz
      · exact hlt.le
      · exact hlt.le.trans (hy z hz)
    · next hge =>
      refine List.pairwise_cons.2 ⟨fun z hz => ?_, ih hys⟩
      rcases List.mem_cons.1 ((perm_insertBy x ys).mem_iff.1 hz) with rfl | hz
      · exact Nat.not_lt.1 hge
      · exact hy z hz

theorem perm_sorted_foldl_insertBy (xs : List α) {acc : List α} (h : acc.Pairwise fun a b => key a ≤ key b) :
    (xs.foldl (fun acc x => insertBy key x acc) acc).Perm (xs ++ acc) ∧
    (xs.foldl (fun acc x => insertBy key x acc) acc).Pairwise fun a b => key a ≤ key b := by
  induction xs generalizing acc with
  | nil => exact ⟨.rfl, h⟩
  | cons x xs ih =>
    obtain ⟨hp, hs⟩ := ih (sorted_insertBy x h)
    exact ⟨(hp.trans ((perm_insertBy x acc).append_left xs)).trans List.perm_middle, hs⟩

theorem perm_sortBy (xs : List α) : (sortBy key xs).Perm xs := by
  simpa [sortBy] using (perm_sorted_foldl_insertBy xs (List.Pairwise.nil (R := fun a b => key a ≤ key b))).1

theorem sorted_sortBy (xs : List α) : (sortBy key xs).Pairwise fun a b => key a ≤ key b :=
  (perm_sorted_foldl_insertBy xs .nil).2

end

/-- Each record number stands once among the indices. -/
theorem nodup_indices (n : Nat) : (indices n).Nodup := by
  rw [indices_eq_finRange]
  exact List.nodup_finRange n

/-! ### The released line (R44) -/

section
variable {s : State}

/-- The places the line is sorted from. -/
def linePlaces (s : State) : List LinePlace :=
  ((indices Config.actuators).filter fun a => (act a s).state != .off).map fun a => ⟨a, (act a s).station⟩

theorem formLine_perm (s : State) : (formLine s).Perm (linePlaces s) := perm_sortBy _

theorem mem_linePlaces {l : LinePlace} :
    l ∈ linePlaces s ↔ (act l.act s).state ≠ .off ∧ l.station = (act l.act s).station := by
  simp only [linePlaces, List.mem_map, List.mem_filter, mem_indices, true_and, bne_iff_ne]
  constructor
  · rintro ⟨a, ha, rfl⟩
    exact ⟨ha, rfl⟩
  · rintro ⟨ha, hst⟩
    exact ⟨l.act, ha, by rw [← hst]⟩

theorem nodup_linePlaces (s : State) : ((linePlaces s).map LinePlace.act).Nodup := by
  rw [linePlaces, List.map_map]
  exact (List.map_id _).symm ▸ (nodup_indices _).filter _

end

/-! ### Pattern forces (R45, R46) -/

section
variable {b : Bank} {n p i : Nat} {d : Direction}

theorem patternForce_lead (h : i < b.lead) : patternForce b n d p i = b.ends.getD i 0 := by
  simp [patternForce, endLoadOf, h, Bank.endLoad]

theorem patternForce_trail (hl : b.lead + b.trail < n) (h : n - b.trail ≤ i) :
    patternForce b n d p i = b.ends.getD (b.lead + (i - (n - b.trail))) 0 := by
  have : ¬ i < b.lead := by omega
  simp [patternForce, endLoadOf, h, this, Bank.endLoad]

section
variable (h1 : b.lead ≤ i) (h2 : i < n - b.trail)
include h1 h2

theorem endLoadOf_travel : endLoadOf b n i = none := by
  simp [endLoadOf, Nat.not_lt.2 h1, Nat.not_le.2 h2]

theorem cellOver_travel : cellOver b n d p i =
    if slotOf b n d i ≤ p ∧ p - slotOf b n d i < b.len then some (p - slotOf b n d i) else none := by
  simp [cellOver, endLoadOf_travel h1 h2]

theorem patternForce_cell (h3 : slotOf b n d i ≤ p) (h4 : p - slotOf b n d i < b.len) :
    patternForce b n d p i = b.cells.getD (p - slotOf b n d i) 0 := by
  simp [patternForce, endLoadOf_travel h1 h2, cellOver_travel h1 h2, h3, h4, Bank.cell]

theorem patternForce_bed (h : p < slotOf b n d i ∨ b.len ≤ p - slotOf b n d i) : patternForce b n d p i = b.bed := by
  have : ¬ (slotOf b n d i ≤ p ∧ p - slotOf b n d i < b.len) := by omega
  simp [patternForce, endLoadOf_travel h1 h2, cellOver_travel h1 h2, this]

end

end

/-! ### Targets (R58) -/

section
variable {force : Int} {scale derate : Nat}

/-- A scale and a derate of at most 100 take a force toward zero. -/
theorem scaledForce_nonneg (hs : scale ≤ 100) (hd : derate ≤ 100) (h : 0 ≤ force) :
    0 ≤ scaledForce force scale derate ∧ scaledForce force scale derate ≤ force := by
  have hf : (scale : Int) * derate ≤ 10000 := by exact_mod_cast Nat.mul_le_mul hs hd
  have hp : 0 ≤ force * scale * derate := by positivity
  rw [scaledForce, Int.tdiv_eq_ediv_of_nonneg hp]
  refine ⟨Int.ediv_nonneg hp (by decide), Int.ediv_le_of_le_mul (by decide) ?_⟩
  rw [mul_assoc]
  exact mul_le_mul_of_nonneg_left hf h

/-- Truncation is the same on both sides of zero. -/
theorem scaledForce_neg : scaledForce (-force) scale derate = -scaledForce force scale derate := by
  rw [scaledForce, scaledForce, neg_mul, neg_mul, Int.neg_tdiv]

end

/-- Settles O35: the line is a permutation of its places, in order; the forces by place, the targets by sign. -/
theorem patternForcesAndTargets : Obligations.PatternForcesAndTargets := by
  refine ⟨⟨fun s => ⟨sorted_sortBy _, ?nodup, fun l => (formLine_perm s).mem_iff.trans mem_linePlaces⟩,
      fun b n p i d hl hi => ?forces⟩,
    fun s l i => rfl, fun force scale derate hs hd => ⟨scaledForce_nonneg hs hd, fun h => ?negative⟩⟩
  case nodup => exact ((formLine_perm s).map _).nodup_iff.2 (nodup_linePlaces s)
  case forces =>
    intro slot
    exact ⟨patternForce_lead, patternForce_trail hl, patternForce_cell, patternForce_bed⟩
  case negative =>
    obtain ⟨h1, h2⟩ := scaledForce_nonneg hs hd (neg_nonneg.2 h)
    rw [scaledForce_neg] at h1 h2
    omega

/-! ### Validation (R47) -/

/-- The first entry of a list that finds something. -/
theorem findSome?_first {α β : Type} {f : α → Option β} {xs pre post : List α} {x : α} {y : β}
    (hx : xs = pre ++ x :: post) (hpre : ∀ m ∈ pre, f m = none) (h : f x = some y) : xs.findSome? f = some y :=
  List.findSome?_eq_some_iff.2 ⟨pre, x, post, hx, h, hpre⟩

section
variable {b : Bank} {line : List LinePlace} {s : State} {f : Int} {l : LinePlace}

/-- A force a line place would carry. -/
theorem forceWithin_iff {a : Fin Config.actuators} :
    forceWithin s f a = true ↔ (act a s).tensLimit ≤ f ∧ f ≤ (act a s).compLimit := inRange_iff

/-- The numbers below `n` around one of them. -/
theorem range_around {n k : Nat} (h : k < n) :
    ∃ post, List.range n = List.range k ++ k :: post := by
  refine ⟨(List.range (n - k - 1)).map fun i => k + (i + 1), ?_⟩
  have hn : n = k + (n - k - 1 + 1) := by omega
  conv_lhs => rw [hn, List.range_add, List.range_succ_eq_map]
  simp

/-- The times in range. -/
theorem timesOk_iff : timesOk b = true ↔ 10 ≤ b.ramp ∧ b.ramp ≤ 10000 ∧ 10 ≤ b.dwell ∧ b.dwell ≤ 60000 := by
  simp [timesOk, and_assoc]

section
variable (h0 : b.len ≠ 0)
include h0

theorem validate_times (ht : ¬ timesOk b = true) : validate b line s = some { item := .times } := by
  rw [validate, if_neg (by omega), if_pos (Bool.eq_false_iff.2 ht)]

variable (ht : timesOk b = true)
include ht

theorem validate_travel (hc : line.length ≤ b.lead + b.trail) : validate b line s = some { item := .travel } := by
  rw [validate, if_neg (by omega), if_neg (by simp [ht]), if_pos (by simpa [cutExists] using hc)]

variable (hc : b.lead + b.trail < line.length)
include hc

theorem validate_endCount (he : b.endCount ≠ b.lead + b.trail) : validate b line s = some { item := .endCount } := by
  rw [validate, if_neg (by omega), if_neg (by simp [ht]), if_neg (by simpa [cutExists] using hc), if_pos he]

/-- The limits are checked last: the cells, the bed load, the end loads. -/
theorem validate_limits (he : b.endCount = b.lead + b.trail) :
    validate b line s = (cellFailing b line s).or ((bedFailing b line s).or (endFailing b line s)) := by
  rw [validate, if_neg (by omega), if_neg (by simp [ht]), if_neg (by simpa [cutExists] using hc), if_neg (not_not.2 he)]
  cases cellFailing b line s <;> cases bedFailing b line s <;> rfl

end

/-- No place of a list breaks the limits under one force. -/
theorem findSome?_fits {ls : List LinePlace} {g : LinePlace → Failing}
    (h : ∀ l ∈ ls, (act l.act s).tensLimit ≤ f ∧ f ≤ (act l.act s).compLimit) :
    (ls.findSome? fun l => if forceWithin s f l.act then none else some (g l)) = none :=
  List.findSome?_eq_none_iff.2 fun l hl => if_pos (forceWithin_iff.2 (h l hl))

/-- The first place of a list that breaks them. -/
theorem findSome?_breaks {ls pre post : List LinePlace} {g : LinePlace → Failing} (hls : ls = pre ++ l :: post)
    (hpre : ∀ m ∈ pre, (act m.act s).tensLimit ≤ f ∧ f ≤ (act m.act s).compLimit)
    (h : ¬ ((act l.act s).tensLimit ≤ f ∧ f ≤ (act l.act s).compLimit)) :
    (ls.findSome? fun l => if forceWithin s f l.act then none else some (g l)) = some (g l) :=
  findSome?_first hls (fun m hm => if_pos (forceWithin_iff.2 (hpre m hm))) (if_neg (mt forceWithin_iff.1 h))

end

/-- Settles O36: the checks in their order; each search for a failing load stops at the first place it fits not. -/
theorem validationFindsTheFirstFailing : Obligations.ValidationFindsTheFirstFailing := by
  intro b line s times travel held fits
  have htimes : timesOk b = true ↔ times := timesOk_iff
  refine ⟨fun h => if_pos (by omega), fun h0 ht => validate_times h0 (mt htimes.1 ht),
    fun h0 ht hc => validate_travel h0 (htimes.2 ht) hc,
    fun h0 ht hc => ⟨fun he => validate_endCount h0 (htimes.2 ht) hc he, fun he => ?limits⟩⟩
  intro cellsFit bedFits
  rw [validate_limits h0 (htimes.2 ht) hc he]
  have cellsPass : (∀ k, k < b.len → cellsFit k) → cellFailing b line s = none := fun h =>
    List.findSome?_eq_none_iff.2 fun k hk => findSome?_fits (h k (List.mem_range.1 hk))
  have bedPasses : bedFits → bedFailing b line s = none := fun h => findSome?_fits h
  refine ⟨fun k pre l post hk hj htr hpre hl => ?cell, fun hcells => ⟨fun pre l post htr hpre hl => ?bed,
    fun hbed pre l post hheld hpre hl => ?endLoad, fun hbed hends => ?valid⟩⟩
  case cell =>
    obtain ⟨rest, hr⟩ := range_around hk
    have found : cellFailing b line s = some { item := .cell, index := some k, act := some l.act.val } :=
      findSome?_first hr (fun j hmem => findSome?_fits (hj j (List.mem_range.1 hmem))) (findSome?_breaks htr hpre hl)
    rw [found]; rfl
  case bed =>
    have found : bedFailing b line s = some { item := .bed, act := some l.act.val } := findSome?_breaks htr hpre hl
    rw [cellsPass hcells, found]; rfl
  case endLoad =>
    have found : endFailing b line s = some { item := .endLoad, index := some pre.length, act := some l.act.val } := by
      refine findSome?_first (pre := pre.zipIdx) (x := (l, pre.length)) (post := post.zipIdx (pre.length + 1)) ?_
        (fun x hx => if_pos (forceWithin_iff.2 (hpre x hx))) (if_neg (mt forceWithin_iff.1 hl))
      show held.zipIdx = _
      rw [hheld, List.zipIdx_append, List.zipIdx_cons, Nat.zero_add]
    rw [cellsPass hcells, bedPasses hbed, found]; rfl
  case valid =>
    have passes : endFailing b line s = none :=
      List.findSome?_eq_none_iff.2 fun x hx => if_pos (forceWithin_iff.2 (hends x hx))
    rw [cellsPass hcells, bedPasses hbed, passes]; rfl

end Sys2Proof.Machine
end

section
/-! COMMIT BANK, CANCEL SWAP and SWAP BANK (R48 to R54): the outcome of each at LSQ. -/
namespace Sys2Proof.Machine

variable {s t : State} {f : Failing} {code : Byte}

/-! ### The answer with data -/

/-- What the owner does is answered DONE with the data it gives. -/
theorem plainRequest_doneWith {g : State → Taken} {d : List Byte} (h : PortFree s) (k : keepsAmend code = false)
    (ht : g (atOwner code s) = done (atOwner code t) d) :
    hostRequest code (noParams g) [0] s = .next (answered code (doneWith d) t) := by
  rw [request_none g h k, ht]; rfl

/-- What the owner refuses is answered REFUSED with the data it gives. -/
theorem plainRequest_refusedWith {g : State → Taken} {r : Reason} {d : List Byte} (h : PortFree s)
    (k : keepsAmend code = false) (ht : g (atOwner code s) = refuse (atOwner code s) r d) :
    hostRequest code (noParams g) [0] s = .next (answered code { code := .refused, reason := r, data := d } s) := by
  rw [request_none g h k, ht]; rfl

/-! ### COMMIT BANK and CANCEL SWAP (R48, R54) -/

theorem takeCommitBank_pending (h : s.lsq.swapPending = true) : takeCommitBank s = refuse s .swapPending := if_pos h

theorem takeCommitBank_valid (h : s.lsq.swapPending = false) (hv : validate (standbyBank s) (theLine s) s = none) :
    takeCommitBank s = done (setStandbyState .valid s) [0, 0xFF, 0xFF, 0xFF] := by
  rw [takeCommitBank, if_neg (ne_true_of_eq_false h), hv]
  rfl

theorem takeCommitBank_invalid (h : s.lsq.swapPending = false) (hv : validate (standbyBank s) (theLine s) s = some f) :
    takeCommitBank s =
      done (setStandbyState (.invalid f) s) [1, byteOf f.item.code, optByte f.index, optByte f.act] := by
  rw [takeCommitBank, if_neg (ne_true_of_eq_false h), hv]
  rfl

theorem takeCancelSwap_pending (h : s.lsq.swapPending = true) :
    takeCancelSwap s = done { s with lsq := { s.lsq with swapPending := false } } := if_pos h

theorem takeCancelSwap_none (h : s.lsq.swapPending = false) : takeCancelSwap s = refuse s .state :=
  if_neg (ne_true_of_eq_false h)

/-! ### SWAP BANK (R50, R51) -/

theorem takeSwapBank_idle (hq : s.lsq.seq = .idle) (hv : (standbyBank s).state = .valid) :
    takeSwapBank s = done (swapAtRest s) := by
  simp only [takeSwapBank, hq, if_pos hv]

theorem takeSwapBank_ready (hq : s.lsq.seq = .ready) (hv : (standbyBank s).state = .valid)
    (h : validate (standbyBank s) (theLine s) s = none) : takeSwapBank s = done (swapAtRest s) := by
  simp only [takeSwapBank, hq, if_pos hv, h]

theorem takeSwapBank_invalid (hq : s.lsq.seq = .ready) (hv : (standbyBank s).state = .valid)
    (h : validate (standbyBank s) (theLine s) s = some f) : takeSwapBank s =
      refuse s .invalid [1, byteOf f.item.code, optByte f.index, optByte f.act] := by
  simp only [takeSwapBank, hq, if_pos hv, h]
  rfl

/-- A run under way. -/
def InFlight (st : SeqState) : Prop := st ∈ [.running .ramp, .running .dwell, .haltingFinish .ramp,
  .haltingFinish .dwell, .haltingRest, .held .step, .held .rest, .halted]

theorem takeSwapBank_inFlight (hq : InFlight s.lsq.seq) : takeSwapBank s = takeSwapInFlight s := by
  simp only [InFlight, List.mem_cons, List.not_mem_nil, or_false] at hq
  rcases hq with hq | hq | hq | hq | hq | hq | hq | hq <;> simp only [takeSwapBank, hq]

theorem takeSwapInFlight_pending (h : s.lsq.swapPending = true) : takeSwapInFlight s = refuse s .pending := if_pos h

theorem takeSwapInFlight_done (h : s.lsq.swapPending = false) (hv : (standbyBank s).state = .valid) :
    takeSwapInFlight s = done { s with lsq := { s.lsq with swapPending := true } } :=
  (if_neg (ne_true_of_eq_false h)).trans (if_pos hv)

theorem takeSwapInFlight_state (h : s.lsq.swapPending = false) (hv : (standbyBank s).state ≠ .valid) :
    takeSwapInFlight s = refuse s .state := (if_neg (ne_true_of_eq_false h)).trans (if_neg hv)

theorem takeSwapBank_state (hv : (standbyBank s).state ≠ .valid)
    (hq : s.lsq.seq = .idle ∨ s.lsq.seq = .ready ∨ (InFlight s.lsq.seq ∧ s.lsq.swapPending = false)) :
    takeSwapBank s = refuse s .state := by
  rcases hq with hq | hq | ⟨hq, h⟩
  · simp only [takeSwapBank, hq, if_neg hv]
  · simp only [takeSwapBank, hq, if_neg hv]
  · rw [takeSwapBank_inFlight hq, takeSwapInFlight_state h hv]

theorem takeSwapBank_changing (hq : s.lsq.seq = .arming ∨ s.lsq.seq = .disarming) :
    takeSwapBank s = refuse s .state := by
  rcases hq with hq | hq <;> simp only [takeSwapBank, hq]

/-- Settles O37: each clause is one outcome of a request at LSQ. -/
theorem bankRequests : Obligations.BankRequests := by
  refine ⟨fun s hp => ?commit, fun s hp => ?swap⟩
  case commit =>
    intro standby put
    exact ⟨fun h => plainRequest_refused hp rfl (takeCommitBank_pending (s := atOwner 0x50 s) h),
      fun h => ⟨fun hv => plainRequest_doneWith hp rfl (takeCommitBank_valid (s := atOwner 0x50 s) h hv),
        fun f hv => plainRequest_doneWith hp rfl (takeCommitBank_invalid (s := atOwner 0x50 s) h hv)⟩,
      fun h => plainRequest_done hp rfl (takeCancelSwap_pending (s := atOwner 0x52 s) h),
      fun h => plainRequest_refused hp rfl (takeCancelSwap_none (s := atOwner 0x52 s) h)⟩
  case swap =>
    intro swapped inFlight
    refine ⟨fun hv => ⟨fun hq => ?idle, fun hq h => ?ready, fun f hq h => ?invalid, fun hq h => ?pends⟩,
      fun hq h => ?pending, fun hv hq => ?state, fun hq => ?changing⟩
    case idle => exact plainRequest_done hp rfl (takeSwapBank_idle (s := atOwner 0x51 s) hq hv)
    case ready => exact plainRequest_done hp rfl (takeSwapBank_ready (s := atOwner 0x51 s) hq hv h)
    case invalid => exact plainRequest_refusedWith hp rfl (takeSwapBank_invalid (s := atOwner 0x51 s) hq hv h)
    case pends =>
      exact plainRequest_done hp rfl
        ((takeSwapBank_inFlight (s := atOwner 0x51 s) hq).trans (takeSwapInFlight_done (s := atOwner 0x51 s) h hv))
    case pending =>
      exact plainRequest_refused hp rfl
        ((takeSwapBank_inFlight (s := atOwner 0x51 s) hq).trans (takeSwapInFlight_pending (s := atOwner 0x51 s) h))
    case state => exact plainRequest_refused hp rfl (takeSwapBank_state (s := atOwner 0x51 s) hv hq)
    case changing => exact plainRequest_refused hp rfl (takeSwapBank_changing (s := atOwner 0x51 s) hq)

end Sys2Proof.Machine
end

section
/-! ARM, START and RESUME (R59, R61, R75): their checks and effects at LSQ. -/
namespace Sys2Proof.Machine

variable {s : State} {f : Failing}

/-! ### ARM (R59) -/

/-- Emptying tags where none is awaited. -/
theorem awaitedAfter_fill (ts : List (Fin Config.actuators × Int)) :
    awaitedAfter ts (Table.fill _ none) = Table.fill _ none := by
  induction ts with
  | nil => rfl
  | cons x ts ih =>
    have same : (Table.fill Config.actuators (none : Option Tag)).set x.1 none = Table.fill _ none :=
      Table.ext_get fun i => by rw [Table.get_set]; split <;> simp
    rw [awaitedAfter, List.foldl_cons, same]
    exact ih

/-- No actuator is faulted in an empty fault set. -/
theorem isFaulted_empty (h : s.lsq.faultSet = 0) (a : Fin Config.actuators) : isFaulted s a = false := by
  simp [isFaulted, inSet, h]

/-- The rest loads of a line without faults. -/
theorem restTargets_noFault (h : s.lsq.faultSet = 0) :
    restTargets s = (theLine s).map fun l => (l.act, (act l.act s).restLoad) := by
  simp [restTargets, lineActs, isFaulted_empty h]

/-- Everything ARM does when taken. -/
theorem beginArming_eq (line : List LinePlace) : beginArming line s = { s with
    lsq := { s.lsq with
      seq := .arming, line := some line, direction := (activeBank s).dir, position := 0, haltCause := .none
      faultSet := 0, awaited := Table.fill _ none, reholdSet := 0, freedSet := 0 }
    transit := s.transit ++ line.map (fun l => .setCommand l.act (act l.act s).restLoad s.lsq.restRamp) ++
      [.attentionEventReport .seqState] } := by
  rw [beginArming, restTargets_noFault rfl, commandSets_eq]
  simp [armed, onLsq, raise, send, setsOf, map_const_eq_fill, awaitedAfter_fill, theLine, activeBank, act]

/-- Some actuator of the line is in FAULT. -/
theorem any_fault_iff {line : List LinePlace} : (line.any fun l => (act l.act s).state.cause?.isSome) = true ↔
    ∃ l ∈ line, ∃ c, (act l.act s).state = .fault c := by
  simp only [List.any_eq_true, Option.isSome_iff_ne_none, ne_eq, cause?_eq_none_iff, not_not]

theorem takeArm_state (h : s.lsq.seq ≠ .idle) : takeArm s = refuse s .state := if_pos h

section
variable (hq : s.lsq.seq = .idle)
include hq

theorem takeArm_rezone (h : s.lsq.rezoneOpen = true) : takeArm s = refuse s .rezoneOpen :=
  (if_neg (not_not.2 hq)).trans (if_pos h)

variable (hr : s.lsq.rezoneOpen = false)
include hr

theorem takeArm_closed : takeArm s = if formLine s = [] then refuse s .noActuator
    else if (formLine s).any (fun l => (act l.act s).state.cause?.isSome) then refuse s .faultPresent
    else match validate (activeBank s) (formLine s) s with
      | some f => refuse s .invalid (validationData (some f))
      | none => done (beginArming (formLine s) s) :=
  (if_neg (not_not.2 hq)).trans (if_neg (ne_true_of_eq_false hr))

theorem takeArm_fault (h : ∃ l ∈ formLine s, ∃ c, (act l.act s).state = .fault c) : takeArm s = refuse s .faultPresent := by
  obtain ⟨l, hl, hc⟩ := h
  rw [takeArm_closed hq hr, if_neg (List.ne_nil_of_mem hl), if_pos (any_fault_iff.2 ⟨l, hl, hc⟩)]

theorem takeArm_checked (hl : formLine s ≠ []) (hf : ¬ ∃ l ∈ formLine s, ∃ c, (act l.act s).state = .fault c) :
    takeArm s = match validate (activeBank s) (formLine s) s with
      | some f => refuse s .invalid (validationData (some f))
      | none => done (beginArming (formLine s) s) := by
  rw [takeArm_closed hq hr, if_neg hl, if_neg (mt any_fault_iff.1 hf)]

end

/-- Settles O38: each clause is one outcome of ARM at LSQ. -/
theorem armChecksAndEffect : Obligations.ArmChecksAndEffect := by
  intro s hp line fault
  refine ⟨fun h => plainRequest_refused hp rfl (takeArm_state (s := atOwner 0x21 s) h),
    fun hq => ⟨fun h => plainRequest_refused hp rfl (takeArm_rezone (s := atOwner 0x21 s) hq h),
      fun hr => ⟨fun hl => ?empty, fun hf => plainRequest_refused hp rfl (takeArm_fault (s := atOwner 0x21 s) hq hr hf),
        fun hl hf => ?checked⟩⟩⟩
  case empty =>
    exact plainRequest_refused hp rfl ((takeArm_closed (s := atOwner 0x21 s) hq hr).trans (if_pos hl))
  case checked =>
    have checked := takeArm_checked (s := atOwner 0x21 s) hq hr hl hf
    refine ⟨fun f hv => plainRequest_refusedWith hp rfl (checked.trans ?invalid),
      fun hv => plainRequest_done hp rfl (checked.trans ?valid)⟩
    case invalid =>
      have : validate (activeBank (atOwner 0x21 s)) (formLine (atOwner 0x21 s)) (atOwner 0x21 s) = some f := hv
      rw [this]; rfl
    case valid =>
      have : validate (activeBank (atOwner 0x21 s)) (formLine (atOwner 0x21 s)) (atOwner 0x21 s) = none := hv
      rw [this, beginArming_eq]; rfl

/-! ### START and RESUME (R61, R75) -/

/-- The target test. -/
theorem targetReached_iff : targetReached s = true ↔
    ((activeBank s).target ≠ 0 ∧ (activeBank s).target ≤ s.lsq.passCount) ∨ s.lsq.passCount = 2 ^ 32 - 1 := by
  simp [targetReached]

/-- The targets of a step of a line without faults. -/
theorem stepTargets_noFault (h : s.lsq.faultSet = 0) :
    stepTargets s = (theLine s).zipIdx.map fun x => (x.1.act, placeTarget s x.1 x.2) := by
  simp [stepTargets, isFaulted_empty h]

/-- Everything the start of a step from rest or hold does. -/
theorem beginRunning_eq : beginRunning s = { s with
    lsq := { s.lsq with
      seq := .running .ramp, haltCause := .none, reholdSet := 0, awaited := awaitedAfter (stepTargets s) s.lsq.awaited }
    transit := s.transit ++ setsOf (activeBank s).ramp (stepTargets s) ++ [.attentionEventReport .seqState] } := by
  rw [beginRunning, startStep_eq]
  rfl

theorem startChecked_rezone (h : s.lsq.rezoneOpen = true) : startChecked s = refuse s .rezoneOpen := if_pos h

section
variable (hr : s.lsq.rezoneOpen = false)
include hr

theorem startChecked_fault (h : s.lsq.faultSet ≠ 0) : startChecked s = refuse s .faultPresent :=
  (if_neg (ne_true_of_eq_false hr)).trans (if_pos h)

variable (hf : s.lsq.faultSet = 0)
include hf

theorem startChecked_reached (h : targetReached s = true) : startChecked s = refuse s .targetReached := by
  rw [startChecked, if_neg (ne_true_of_eq_false hr), if_neg (not_not.2 hf), if_pos h]

theorem startChecked_done (h : ¬ targetReached s = true) : startChecked s = done (beginRunning s) := by
  rw [startChecked, if_neg (ne_true_of_eq_false hr), if_neg (not_not.2 hf), if_neg h]

end

theorem takeStart_ready (h : s.lsq.seq = .ready) : takeStart s = startChecked s := if_pos h

theorem takeStart_state (h : s.lsq.seq ≠ .ready) : takeStart s = refuse s .state := if_neg h

/-- The states RESUME is taken in. -/
def Resumable (st : SeqState) : Prop := st = .held .step ∨ st = .held .rest ∨ st = .halted

theorem takeResume_resumable (h : Resumable s.lsq.seq) : takeResume s = startChecked s := by
  rcases h with h | h | h <;> simp only [takeResume, h]

theorem takeResume_state (h : ¬ Resumable s.lsq.seq) : takeResume s = refuse s .state := by
  unfold takeResume
  split
  · next o ho =>
    refine absurd ?_ h
    cases o
    · exact .inl ho
    · exact .inr (.inl ho)
  · next ho => exact absurd (.inr (.inr ho)) h
  · rfl

/-- Settles O39: the two requests share their checks, each outcome stated once for both. -/
theorem startAndResume : Obligations.StartAndResume := by
  intro s hp resumable reached steps running both
  have hreached : ∀ code, targetReached (atOwner code s) = true ↔ reached := fun _ => targetReached_iff
  have refused : ∀ {r}, (∀ code, startChecked (atOwner code s) = refuse (atOwner code s) r) → both (refusedFor r) s :=
    fun h => ⟨fun hq => plainRequest_refused hp rfl ((takeStart_ready (s := atOwner 0x22 s) hq).trans (h _)),
      fun hq => plainRequest_refused hp rfl ((takeResume_resumable (s := atOwner 0x25 s) hq).trans (h _))⟩
  refine ⟨fun h => plainRequest_refused hp rfl (takeStart_state (s := atOwner 0x22 s) h),
    fun h => plainRequest_refused hp rfl (takeResume_state (s := atOwner 0x25 s) h),
    fun h => refused fun code => startChecked_rezone (s := atOwner code s) h,
    fun hr h => refused fun code => startChecked_fault (s := atOwner code s) hr h,
    fun hr hf h => refused fun code => startChecked_reached (s := atOwner code s) hr hf ((hreached code).2 h),
    fun hr hf h => ?runs⟩
  have runs : ∀ code, startChecked (atOwner code s) = done (atOwner code running) := fun code => by
    rw [startChecked_done (s := atOwner code s) hr hf (mt (hreached code).1 h), beginRunning_eq,
      stepTargets_noFault (s := atOwner code s) hf]
    rfl
  exact ⟨fun hq => plainRequest_done hp rfl ((takeStart_ready (s := atOwner 0x22 s) hq).trans (runs _)),
    fun hq => plainRequest_done hp rfl ((takeResume_resumable (s := atOwner 0x25 s) hq).trans (runs _))⟩

end Sys2Proof.Machine
end

section
/-! The requests of the other blocks to halt (R71), the interval clock (R79, R80) and the numbers kept in range. -/
namespace Sys2Proof.Machine

variable {s : State}

theorem takeHaltRequest_running {ph : StepPhase} {c : HaltCause} (h : s.lsq.seq = .running ph) :
    takeHaltRequest c s = enterSeq (.haltingFinish ph) (setCause c s) := by
  simp only [takeHaltRequest, h]

theorem takeHaltRequest_other {c : HaltCause} (h : ∀ ph, s.lsq.seq ≠ .running ph) :
    takeHaltRequest c s = raise .seqState s := by
  unfold takeHaltRequest
  split
  · next ph hph => exact absurd hph (h ph)
  · rfl

/-- The three requests, each an arrival at LSQ. -/
theorem exec_haltRequest {c : Instr} {cause : HaltCause} (hs : s.resetHeld = false)
    (hc : (c, cause) ∈ [((.strainTrip : Instr), HaltCause.strainTrip), (.crackGrowth, .crackGrowth),
      (.crackTableFull, .crackTableFull)]) : exec c s = .next (takeHaltRequest cause (arrive c s)) := by
  simp only [List.mem_cons, List.not_mem_nil, or_false, Prod.mk.injEq] at hc
  rcases hc with ⟨rfl, rfl⟩ | ⟨rfl, rfl⟩ | ⟨rfl, rfl⟩ <;> exact onArrival_free _ _ hs

/-- Everything a close of the interval does. -/
theorem closeTheInterval_eq : closeTheInterval s = { s with
    lsq := { s.lsq with intervalNumber := s.lsq.intervalNumber + 1, intervalPasses := 0 }
    transit := s.transit ++ [.attentionEventReport .intervalClosed, .gscIntervalClose (s.lsq.intervalNumber + 1),
      .cwuIntervalClose (s.lsq.intervalNumber + 1)] } := by
  simp [closeTheInterval, sendAll, raise, send, onLsq]

/-- Settles O41: the requests by state, the clock, and the range of the sequencer's numbers, which every step keeps. -/
theorem haltRequestsAndIntervalClock : Obligations.HaltRequestsAndIntervalClock := by
  refine ⟨fun c cause s hs hc => ⟨fun ph h => ?running, fun h => ?other, fun b => onArrival_free _ _ hs⟩, fun s hp => ?clock,
    fun n s hs => onArrival_free _ _ hs, fun s t h ht => step_invKept (fun _ _ h => h) (fun _ _ k => k.range) h ht⟩
  case running =>
    rw [exec_haltRequest hs hc, takeHaltRequest_running (s := arrive c s) h]
    rfl
  case other =>
    rw [exec_haltRequest hs hc, takeHaltRequest_other (s := arrive c s) h]
    rfl
  case clock =>
    intro number
    refine ⟨?close, fun h => ?clear, fun h => ?clearState⟩
    case close =>
      refine plainRequest_doneWith hp rfl ?_
      rw [takeCloseInterval, closeTheInterval_eq]
      rfl
    case clear => exact plainRequest_done hp rfl (if_pos h)
    case clearState => exact plainRequest_refused hp rfl (if_neg h)

end Sys2Proof.Machine
end

section
/-! ACT_FAULT and FREED at LSQ (R57, R60, R74, R78). -/
namespace Sys2Proof.Machine

variable {a : Fin Config.actuators} {s : State}

/-! ### ACT_FAULT -/

theorem takeActFault_ignored (h : s.lsq.seq = .idle ∨ inSet s.lsq.faultSet a = true) : takeActFault a s = s := if_pos h

section
variable (hf : inSet s.lsq.faultSet a = false)
include hf

/-- An actuator's first fault outside IDLE is recorded, then obeyed by state. -/
theorem takeActFault_step (h : ∃ ph, s.lsq.seq = .running ph ∨ s.lsq.seq = .haltingFinish ph) :
    takeActFault a s = heldNow .actuatorFault .step (recordFault a s) := by
  obtain ⟨ph, h | h⟩ := h <;> simp [takeActFault, h, isFaulted, hf, haltNow_eq]

theorem takeActFault_rest (h : s.lsq.seq = .haltingRest) :
    takeActFault a s = heldNow .actuatorFault .rest (recordFault a s) := by
  simp [takeActFault, h, isFaulted, hf, haltNow_eq]

theorem takeActFault_arming (h : s.lsq.seq = .arming) :
    takeActFault a s = disarmingNow (setCause .armFailed (recordFault a s)) := by
  simp [takeActFault, h, isFaulted, hf, enterDisarming_eq]

theorem takeActFault_recorded (h : s.lsq.seq ∈ [.ready, .held .step, .held .rest, .halted, .disarming]) :
    takeActFault a s = recordFault a s := by
  simp only [List.mem_cons, List.not_mem_nil, or_false] at h
  rcases h with h | h | h | h | h <;> simp [takeActFault, h, isFaulted, hf]

end

/-! ### FREED -/

/-- Everything the entry to IDLE does. -/
theorem enterIdle_eq : enterIdle s = { s with
    lsq := { s.lsq with
      seq := .idle, awaited := Table.fill _ none, line := none, faultSet := 0, freedSet := 0
      active := if s.lsq.swapPending then s.lsq.active.other else s.lsq.active
      direction := if s.lsq.swapPending then (standbyBank s).dir else s.lsq.direction
      position := if s.lsq.swapPending then 0 else s.lsq.position
      swapPending := false }
    transit := s.transit ++ (if s.lsq.swapPending then [.attentionEventReport .bankEvent] else []) ++
      [.attentionEventReport .seqState] } := by
  rw [enterIdle, emptyAwaited_eq]
  cases h : s.lsq.swapPending
  · simp [h, setSeq, onLsq, raise, send]
  · simp [h, setSeq, onLsq, raise, send, swapAtRest, exchangeRoles, standbyBank]
    rfl

/-- The freed set with the actuator in it. -/
def joinFreed (a : Fin Config.actuators) (s : State) : State :=
  { s with lsq := { s.lsq with freedSet := putBit s.lsq.freedSet a.val true } }

theorem takeFreed_ignored (h : s.lsq.seq ≠ .disarming ∨ a ∉ lineActs s) : takeFreed a s = s := by
  refine if_neg fun ⟨hq, hc⟩ => ?_
  rcases h with h | h
  · exact h hq
  · exact h (List.contains_iff_mem.1 hc)

section
variable (hq : s.lsq.seq = .disarming) (ha : a ∈ lineActs s)
include hq ha

/-- A line actuator's FREED in DISARMING. -/
theorem takeFreed_joins : takeFreed a s = if allFreed (joinFreed a s) then enterIdle (joinFreed a s) else joinFreed a s :=
  if_pos ⟨hq, List.contains_iff_mem.2 ha⟩

theorem takeFreed_waits (h : ∃ b ∈ lineActs s, inSet (putBit s.lsq.freedSet a.val true) b = false) :
    takeFreed a s = joinFreed a s := by
  rw [takeFreed_joins hq ha, if_neg]
  obtain ⟨b, hb, hn⟩ := h
  exact fun h => ne_true_of_eq_false hn (List.all_eq_true.1 h b hb)

theorem takeFreed_last (h : ∀ b ∈ lineActs s, inSet (putBit s.lsq.freedSet a.val true) b = true) :
    takeFreed a s = enterIdle (joinFreed a s) := by
  rw [takeFreed_joins hq ha, if_pos]
  exact List.all_eq_true.2 h

end

/-- Settles O42: each clause is one outcome of a notice at LSQ. -/
theorem actuatorFaultAndFreedNotices : Obligations.ActuatorFaultAndFreedNotices := by
  refine ⟨fun a c s hs => ?fault, fun a s hs => ?freed⟩
  case fault =>
    intro s0 s1
    have taken : exec (.actFault a c) s = .next (takeActFault a s0) := onArrival_free _ _ hs
    rw [taken]
    exact ⟨fun h => congrArg _ (takeActFault_ignored (s := s0) h),
      fun hf => ⟨fun h => congrArg _ (takeActFault_step (s := s0) hf h),
        fun h => congrArg _ (takeActFault_rest (s := s0) hf h),
        fun h => congrArg _ (takeActFault_arming (s := s0) hf h),
        fun h => congrArg _ (takeActFault_recorded (s := s0) hf h)⟩⟩
  case freed =>
    intro rest freed
    have taken : exec (.freed a) s = .next (takeFreed a (arrive (.freed a) s)) := onArrival_free _ _ hs
    rw [taken]
    refine ⟨fun h => congrArg _ (takeFreed_ignored (s := arrive (.freed a) s) h),
      fun hq ha => ⟨fun h => congrArg _ (takeFreed_waits (s := arrive (.freed a) s) hq ha h), fun h => ?last⟩⟩
    rw [takeFreed_last (s := arrive (.freed a) s) hq ha h, enterIdle_eq]
    rfl

end Sys2Proof.Machine
end

section
/-! SET SCALE, TRIM UP, TRIM DOWN and DERATE_FALL (R67 to R70): the falls at LSQ. -/
namespace Sys2Proof.Machine

variable {cand : Fin Config.actuators → Bool} {s : State}

/-- The line actuators outside the fault set that are candidates and whose target drops in magnitude. -/
def drops (cand : Fin Config.actuators → Bool) (s : State) : List (Fin Config.actuators × Int) :=
  ((theLine s).zipIdx.map fun x => (x.1.act, placeTarget s x.1 x.2)).filter fun x =>
    !inSet s.lsq.faultSet x.1 && cand x.1 && decide (x.2.natAbs < (lastCommanded x.1 s).natAbs)

theorem fallTargets_eq : fallTargets cand s = drops cand s := by
  simp only [fallTargets, stepTargets, drops, List.filter_map, List.filter_filter, isFaulted]
  congr 1
  refine List.filter_congr fun x _ => ?_
  simp only [Function.comp, Bool.and_assoc]
  ac_rfl

/-- Everything a fall does where it is obeyed. -/
def resent (cand : Fin Config.actuators → Bool) (s : State) : State :=
  { s with
    lsq := { s.lsq with awaited := awaitedAfter (drops cand s) s.lsq.awaited }
    transit := s.transit ++ setsOf s.lsq.derateRamp (drops cand s) }

/-- A fall by the sequencer's state. -/
def fallen (cand : Fin Config.actuators → Bool) (s : State) : State :=
  if s.lsq.seq ∈ [.running .ramp, .running .dwell, .haltingFinish .ramp, .haltingFinish .dwell] then resent cand s
  else if s.lsq.seq = .held .step then
    { resent cand s with lsq := { (resent cand s).lsq with
      reholdSet := (drops cand s).foldl (fun x d => putBit x d.1.val true) s.lsq.reholdSet } }
  else s

theorem obeyFall_eq : obeyFall cand s = fallen cand s := by
  unfold obeyFall fallen
  simp only [fallTargets_eq, commandSets_eq]
  split
  · next ph h => cases ph <;> rw [if_pos (by simp [h])] <;> rfl
  · next ph h => cases ph <;> rw [if_pos (by simp [h])] <;> rfl
  · next h => rw [if_neg (by simp [h]), if_pos h]; rfl
  · next h1 h2 h3 =>
    rw [if_neg, if_neg h3]
    simp only [List.mem_cons, List.not_mem_nil, or_false, not_or]
    exact ⟨h1 _, h1 _, h2 _, h2 _⟩

/-- A fall is obeyed alike whatever SP holds. -/
theorem fallen_atOwner (code : Byte) : fallen cand (atOwner code s) = atOwner code (fallen cand s) := by
  have hd : drops cand (atOwner code s) = drops cand s := rfl
  have hq : (atOwner code s).lsq.seq = s.lsq.seq := rfl
  simp only [fallen, resent, hd, hq]
  split
  · rfl
  · split <;> rfl

/-- A fall keeps the scale. -/
theorem fallen_scale : (fallen cand s).lsq.scale = s.lsq.scale := by
  unfold fallen
  split
  · rfl
  · split <;> rfl

/-- The scale set. -/
def withScale (v : Nat) (s : State) : State := { s with lsq := { s.lsq with scale := v } }

/-- The scale set, a fall obeyed. -/
def rescaled (v : Nat) (s : State) : State :=
  if v < s.lsq.scale then fallen (fun _ => true) (withScale v s) else withScale v s

theorem changeScale_atOwner (v : Nat) (code : Byte) : changeScale v (atOwner code s) = atOwner code (rescaled v s) := by
  have hq : (atOwner code s).lsq.scale = s.lsq.scale := rfl
  simp only [changeScale, obeyFall_eq, hq, rescaled]
  split
  · exact fallen_atOwner (s := withScale v s) code
  · rfl

theorem rescaled_scale (v : Nat) : (rescaled v s).lsq.scale = v := by
  unfold rescaled
  split
  · exact fallen_scale
  · rfl

/-- A new scale is answered with itself. -/
theorem answerScale_changeScale (v : Nat) (code : Byte) :
    answerScale (changeScale v (atOwner code s)) = done (atOwner code (rescaled v s)) [byteOf v] := by
  have hv : (atOwner code (rescaled v s)).lsq.scale = v := rescaled_scale v
  rw [changeScale_atOwner, answerScale, hv]

/-- With no SET command unanswered the recorded target is the last commanded. -/
theorem lastCommanded_answered {a : Fin Config.actuators} (h : ∀ b t r, .setCommand b t r ∉ s.transit) :
    lastCommanded a s = s.lsq.commanded.get a := by
  unfold lastCommanded
  generalize s.lsq.commanded.get a = x
  generalize s.transit = ms at h
  induction ms with
  | nil => rfl
  | cons m ms ih =>
    rw [List.foldl_cons]
    split
    · next b t r => exact absurd (List.mem_cons_self ..) (h b t r)
    · exact ih fun b t r hm => h b t r (List.mem_cons_of_mem _ hm)

/-- Settles O43: the scale requests change the scale and obey the fall, DERATE_FALL obeys it for its zone. -/
theorem scaleAndFalls : Obligations.ScaleAndFalls := by
  refine ⟨fun b s hp => ⟨fun h => ?range, fun h => ?set⟩, fun s hp => ?trims, fun z s hs => ?fall,
    fun a s h => lastCommanded_answered h⟩
  case range => exact hostRequest_answered hp rfl rfl (if_pos h)
  case set =>
    have byte : byteOf b.toNat = b := (BitVec.ofNat_toNat 8 b).trans (BitVec.setWidth_eq b)
    refine hostRequest_answered hp rfl rfl ((if_neg (Nat.not_lt.2 h)).trans ((answerScale_changeScale _ _).trans ?_))
    rw [byte]
    rfl
  case trims =>
    intro up
    exact ⟨plainRequest_doneWith hp rfl (answerScale_changeScale _ _),
      plainRequest_doneWith hp rfl (answerScale_changeScale _ _)⟩
  case fall =>
    refine (onArrival_free (.derateFall z) _ hs).trans (congrArg _ ?_)
    rw [takeDerateFall, obeyFall_eq]
    rfl

end Sys2Proof.Machine
end

section
/-! SETTLED (R57, R60, R63, R69, R72) and the load mask of a dwell (R46, R63). -/
namespace Sys2Proof.Machine

variable {a : Fin Config.actuators} {s : State}

/-! ### The load mask -/

/-- A bit of a word with one bit set in it. -/
theorem getLsbD_putBit_true {w z i : Nat} (x : BitVec w) (hz : z < w) :
    (putBit x i true).getLsbD z = true ↔ x.getLsbD z = true ∨ i = z := by
  simp only [putBit, bitAt, if_true, BitVec.ofNat_eq_ofNat, BitVec.getLsbD_or, BitVec.getLsbD_shiftLeft, BitVec.getLsbD_one, Bool.or_eq_true,
    Bool.and_eq_true, decide_eq_true_iff, Bool.not_eq_true', decide_eq_false_iff_not]
  exact or_congr_right (by omega)

/-- A word with a bit for each entry of a list that passes a test. -/
theorem getLsbD_foldl_putBit {α : Type} {w z : Nat} (hz : z < w) (p : α → Bool) (k : α → Nat) (xs : List α)
    (m : BitVec w) : (xs.foldl (fun m x => if p x then putBit m (k x) true else m) m).getLsbD z = true ↔
      m.getLsbD z = true ∨ ∃ x ∈ xs, p x = true ∧ k x = z := by
  induction xs generalizing m with
  | nil => simp
  | cons x xs ih =>
    rw [List.foldl_cons, ih]
    simp only [List.mem_cons, exists_eq_or_imp]
    split
    · next h => simp only [getLsbD_putBit_true m hz, h, true_and, or_assoc]
    · next h => simp only [h, Bool.false_eq_true, false_and, false_or]

/-- A cell of the envelope lies over a travel place alone. -/
theorem cellOver_isSome_iff {b : Bank} {n p i : Nat} {d : Direction} : (cellOver b n d p i).isSome = true ↔
    b.lead ≤ i ∧ i < n - b.trail ∧ slotOf b n d i ≤ p ∧ p - slotOf b n d i < b.len := by
  by_cases h1 : b.lead ≤ i
  · by_cases h2 : i < n - b.trail
    · rw [cellOver_travel h1 h2]
      split
      · next h => simp [h1, h2, h]
      · next h => simpa [h1, h2] using h
    · have he : (endLoadOf b n i).isSome = true := by simp [endLoadOf, Nat.not_lt.2 h1, Nat.not_lt.1 h2]
      simp [cellOver, he, h2]
  · have he : (endLoadOf b n i).isSome = true := by simp [endLoadOf, Nat.not_le.1 h1]
    simp [cellOver, he, h1]

/-- The zones of the load mask. -/
theorem getLsbD_envelopeMask {z : Nat} (hz : z < 32) : (envelopeMask s).getLsbD z = true ↔
    ∃ i l, (theLine s)[i]? = some l ∧
      (cellOver (activeBank s) (theLine s).length s.lsq.direction s.lsq.position i).isSome = true ∧
      (act l.act s).zone = z := by
  rw [envelopeMask, getLsbD_foldl_putBit hz]
  simp only [BitVec.ofNat_eq_ofNat, BitVec.getLsbD_zero, Bool.false_eq_true, false_or, Prod.exists,
    List.mem_zipIdx_iff_getElem?]
  exact exists_comm

/-! ### Settles by the sequencer's state -/

/-- No settle is waited for. -/
theorem nothingAwaited_iff : nothingAwaited s = true ↔
    (∀ b, s.lsq.awaited.get b = none) ∧ ∀ b t r, .setCommand b t r ∉ s.transit := by
  have tags : s.lsq.awaited.rows.all Option.isNone = true ↔ ∀ b, s.lsq.awaited.get b = none := by
    rw [List.all_eq_true]
    constructor
    · intro h b
      exact Option.isNone_iff_eq_none.1 (h _ (List.getElem_mem _))
    · intro h x hx
      obtain ⟨k, hk, rfl⟩ := List.getElem_of_mem hx
      exact Option.isNone_iff_eq_none.2 (h ⟨k, s.lsq.awaited.size ▸ hk⟩)
  have sets : s.transit.any isSetCommand = false ↔ ∀ b t r, .setCommand b t r ∉ s.transit := by
    rw [List.any_eq_false]
    constructor
    · exact fun h b t r hm => h _ hm rfl
    · intro h m hm hset
      cases m <;> simp [isSetCommand] at hset
      exact h _ _ _ hm
  rw [nothingAwaited, Bool.and_eq_true, Bool.not_eq_true', tags, sets]

theorem takeSettled_ignored {tag : Tag} (h : s.lsq.awaited.get a ≠ some tag) : takeSettled a tag s = s := if_neg h

theorem takeSettled_awaited {tag : Tag} (h : s.lsq.awaited.get a = some tag) : takeSettled a tag s =
    afterSettle a { s with lsq := { s.lsq with awaited := s.lsq.awaited.set a none } } := if_pos h

section
variable (h : nothingAwaited s = true)
include h

theorem afterSettle_arming (hq : s.lsq.seq = .arming) :
    afterSettle a s = onLsq (fun q => { q with position := 0 }) (enterSeq .ready s) := by
  simp only [afterSettle, hq, if_pos h]

theorem afterSettle_running (hq : s.lsq.seq = .running .ramp) : afterSettle a s = endRamp (.running .dwell) s := by
  simp only [afterSettle, hq, if_pos h]

theorem afterSettle_halting (hq : s.lsq.seq = .haltingFinish .ramp) :
    afterSettle a s = endRamp (.haltingFinish .dwell) s := by
  simp only [afterSettle, hq, if_pos h]

theorem afterSettle_rest (hq : s.lsq.seq = .haltingRest) : afterSettle a s = enterSeq .halted s := by
  simp only [afterSettle, hq, if_pos h]

end

theorem afterSettle_waits (h : ¬ nothingAwaited s = true)
    (hq : s.lsq.seq ∈ [.arming, .running .ramp, .haltingFinish .ramp, .haltingRest]) : afterSettle a s = s := by
  simp only [List.mem_cons, List.not_mem_nil, or_false] at hq
  rcases hq with hq | hq | hq | hq <;> simp only [afterSettle, hq, if_neg h]

theorem afterSettle_held (hq : ∃ o, s.lsq.seq = .held o) : afterSettle a s =
    if inSet s.lsq.reholdSet a && !setUnanswered a s then
      send (.holdCommand a) (onLsq (fun q => { q with reholdSet := putBit q.reholdSet a.val false }) s)
    else s := by
  obtain ⟨o, hq⟩ := hq
  simp only [afterSettle, hq]

theorem afterSettle_other (hq : s.lsq.seq ∈ [.idle, .ready, .running .dwell, .haltingFinish .dwell, .halted, .disarming]) :
    afterSettle a s = s := by
  simp only [List.mem_cons, List.not_mem_nil, or_false] at hq
  rcases hq with hq | hq | hq | hq | hq | hq <;> simp only [afterSettle, hq]

/-- Settles O44: the mask by its places; each clause of the settle is one outcome, by the sequencer's state. -/
theorem settledNotice : Obligations.SettledNotice := by
  refine ⟨fun s z hz => ?mask, fun a tag s hs => ?settle⟩
  case mask =>
    intro b n slot
    simp only [getLsbD_envelopeMask hz, cellOver_isSome_iff, and_assoc]
    rfl
  case settle =>
    intro s0 s1 quiet entered dwelling
    have hquiet : nothingAwaited s1 = true ↔ quiet := nothingAwaited_iff
    have taken : exec (.settled a tag) s = .next (takeSettled a tag s0) := onArrival_free _ _ hs
    rw [taken]
    refine ⟨fun h => congrArg _ (takeSettled_ignored (s := s0) h), fun h => ?_⟩
    have awaited : takeSettled a tag s0 = afterSettle a s1 := takeSettled_awaited (s := s0) h
    rw [awaited]
    refine ⟨fun hn => ⟨fun hq => ?arming, fun hq => ?running, fun hq => ?halting, fun hq => ?rest⟩,
      fun hn hq => congrArg _ (afterSettle_waits (s := s1) (mt hquiet.1 hn) hq),
      fun hq => ⟨fun hr hu => ?reheld, fun hu => ?held⟩, fun hq => congrArg _ (afterSettle_other (s := s1) hq)⟩
    case arming => exact congrArg _ (afterSettle_arming (s := s1) (hquiet.2 hn) hq)
    case running => exact congrArg _ (afterSettle_running (s := s1) (hquiet.2 hn) hq)
    case halting => exact congrArg _ (afterSettle_halting (s := s1) (hquiet.2 hn) hq)
    case rest => exact congrArg _ (afterSettle_rest (s := s1) (hquiet.2 hn) hq)
    case reheld =>
      have hn : ¬ setUnanswered a s1 = true := by
        rw [setUnanswered_iff]
        rintro ⟨t, r, hm⟩
        exact hu t r hm
      have both : (inSet s1.lsq.reholdSet a && !setUnanswered a s1) = true := by
        rw [Bool.and_eq_true, Bool.not_eq_true']
        exact ⟨hr, Bool.eq_false_iff.2 hn⟩
      rw [afterSettle_held (s := s1) hq, if_pos both]
      rfl
    case held =>
      rw [afterSettle_held (s := s1) hq, if_neg]
      rw [Bool.and_eq_true, Bool.not_eq_true']
      rintro ⟨h1, h2⟩
      rcases hu with hu | hu
      · exact Bool.noConfusion (h1.symm.trans hu)
      · exact Bool.noConfusion (((setUnanswered_iff a s1).2 hu).symm.trans h2)

end Sys2Proof.Machine
end

section
/-! The dwell expiry and the pass boundary (R46, R52, R64 to R66, R79). -/
namespace Sys2Proof.Machine

variable {s : State} {running : Bool}

/-! ### The items of the boundary (R65) -/

/-- Items 1 and 2: the pass counted, the interval's passes, the close. -/
theorem countPasses_eq :
    let n := min 65535 (s.lsq.intervalPasses + 1)
    let number := s.lsq.intervalNumber + 1
    let closes := s.lsq.intervalAuto = true ∧ s.lsq.intervalLen ≤ n
    countIntervalPass (countPass s) = { s with
      lsq := { s.lsq with
        passCount := min (2 ^ 32 - 1) (s.lsq.passCount + 1)
        intervalNumber := if closes then number else s.lsq.intervalNumber
        intervalPasses := if closes then 0 else n }
      transit := s.transit ++ [.attentionEventReport .passDone] ++
        if closes then [.attentionEventReport .intervalClosed, .gscIntervalClose number, .cwuIntervalClose number]
        else [] } := by
  intro n number closes
  have test : (s.lsq.intervalAuto && decide (s.lsq.intervalLen ≤ n)) = true ↔ closes := by simp [closes]
  unfold countIntervalPass
  dsimp only
  split
  · next h =>
    have hc : closes := test.1 h
    rw [closeTheInterval_eq]
    simp only [if_pos hc]
    rfl
  · next h =>
    have hc : ¬ closes := mt test.2 h
    simp only [if_neg hc, List.append_nil]
    rfl

/-- Item 4: the direction turned where the active bank shuttles. -/
theorem turnDirection_eq : turnDirection s = if (activeBank s).shuttle then
      { s with lsq := { s.lsq with direction := if s.lsq.direction = .forward then .reverse else .forward } }
    else s := by
  have turned : s.lsq.direction.turned = if s.lsq.direction = .forward then .reverse else .forward := by
    cases s.lsq.direction <;> rfl
  rw [← turned]
  rfl

section
variable (h : running = true ∧ s.lsq.swapPending = true)
include h

/-- Item 3 with a swap pending: applied, or rejected and the direction turned. -/
theorem settleAndTurn_applied (hv : validate (standbyBank s) (theLine s) s = none) :
    settleAndTurn running s = exchangeRoles s := by
  have hb : (running && s.lsq.swapPending) = true := by simp [h]
  simp only [settleAndTurn, if_pos hb, hv, settleSwap]

theorem settleAndTurn_rejected {f : Failing} (hv : validate (standbyBank s) (theLine s) s = some f) :
    settleAndTurn running s = turnDirection
      (raise .bankEvent (onLsq (fun q => { q with swapPending := false }) (setStandbyState (.invalid f) s))) := by
  have hb : (running && s.lsq.swapPending) = true := by simp [h]
  simp only [settleAndTurn, if_pos hb, hv, settleSwap]

end

/-- Items 3 and 4 without one. -/
theorem settleAndTurn_none (h : ¬ (running = true ∧ s.lsq.swapPending = true)) :
    settleAndTurn running s = turnDirection s :=
  if_neg (by rwa [Bool.and_eq_true])

/-! ### The expiry (R64) -/

theorem takeDwellExpiry_stopped (h : s.lsq.dwellTimer = none) : takeDwellExpiry s = s := if_pos h

/-- The dwell timer stopped. -/
def dwellStopped (s : State) : State := { s with lsq := { s.lsq with dwellTimer := none } }

theorem takeDwellExpiry_dwell (h : s.lsq.dwellTimer ≠ none)
    (hq : s.lsq.seq = if running then .running .dwell else .haltingFinish .dwell) :
    takeDwellExpiry s = completeStep running (dwellStopped s) := by
  cases running with
  | false =>
    have hq : s.lsq.seq = .haltingFinish .dwell := hq
    simp only [takeDwellExpiry, if_neg h, hq]
    rfl
  | true =>
    have hq : s.lsq.seq = .running .dwell := hq
    simp only [takeDwellExpiry, if_neg h, hq]
    rfl

/-- What follows a boundary or a step: the next step, or the rest ramp. -/
def goesOn (running : Bool) (s : State) : State := if running then stepStarted s else restRamped s

theorem goesOn_eq : (if running then startStep s else startRestRamp s) = goesOn running s := by
  rw [startStep_eq, startRestRamp_eq]
  rfl

theorem completeStep_advances (h : s.lsq.position < lastPosition (activeBank s) (theLine s).length) :
    completeStep running s = goesOn running { s with lsq := { s.lsq with position := s.lsq.position + 1 } } :=
  (if_pos h).trans goesOn_eq

theorem completeStep_boundary (h : lastPosition (activeBank s) (theLine s).length ≤ s.lsq.position) :
    completeStep running s = passBoundary running s := if_neg (Nat.not_lt.2 h)

section
variable {t : State} (ht : settleAndTurn running (countIntervalPass (countPass s)) = t)
include ht

theorem passBoundary_reached
    (h : targetReached { t with lsq := { t.lsq with position := 0 } } = true) : passBoundary running s =
      restRamped { t with lsq := { t.lsq with position := 0, haltCause := .targetReached } } := by
  subst ht
  exact (if_pos h).trans (startRestRamp_eq _)

theorem passBoundary_goesOn
    (h : ¬ targetReached { t with lsq := { t.lsq with position := 0 } } = true) : passBoundary running s =
      goesOn running { t with lsq := { t.lsq with position := 0 } } := by
  subst ht
  exact (if_neg h).trans goesOn_eq

end

/-- Settles O45: the expiry by position, the boundary's items in order. -/
theorem dwellExpiryAndPassBoundary : Obligations.DwellExpiryAndPassBoundary := by
  refine ⟨fun b n => rfl, fun ph s hs => ?_⟩
  intro running last s0 n number closes s1 turned s2 s3 reached next goesOn'
  have taken : exec .dwellTimerExpiry s = .next (takeDwellExpiry s) := congrArg Host.Outcome.next (unlessHeld_free _ hs)
  have counted : countIntervalPass (countPass s0) = s1 := countPasses_eq
  have turns : ∀ t, turnDirection t = turned t := fun t => turnDirection_eq
  have settled : settleAndTurn running (countIntervalPass (countPass s0)) = s2 := by
    rw [counted]
    by_cases h : running = true ∧ s.lsq.swapPending = true
    · cases hv : validate (standbyBank s) (theLine s) s with
      | none =>
        rw [settleAndTurn_applied (s := s1) h hv]
        simp only [s2, if_pos h, hv]
        rfl
      | some f =>
        rw [settleAndTurn_rejected (s := s1) h hv, turns]
        simp only [s2, if_pos h, hv]
        rfl
    · rw [settleAndTurn_none (s := s1) h, turns]
      exact (if_neg h).symm
  have hreached : targetReached s3 = true ↔ reached := targetReached_iff
  rw [taken]
  refine ⟨fun h => congrArg _ (takeDwellExpiry_stopped h), fun h hq => ?_⟩
  rw [takeDwellExpiry_dwell h hq]
  refine ⟨fun hp => congrArg _ (completeStep_advances (s := s0) hp), fun hp hr => ?reached, fun hp hr => ?goesOn⟩
  case reached =>
    exact congrArg _
      ((completeStep_boundary (s := s0) hp).trans (passBoundary_reached (t := s2) settled (hreached.2 hr)))
  case goesOn =>
    exact congrArg _
      ((completeStep_boundary (s := s0) hp).trans (passBoundary_goesOn (t := s2) settled (mt hreached.1 hr)))

end Sys2Proof.Machine
end

section
/-! The parts of a gauge event (R85, R99, R102, R103) and a reading's arrival (R95 to R97, R101). -/
namespace Sys2Proof.Machine

variable {s : State} {i : Fin Config.gauges}

/-! ### Parts of an event -/

/-- Some record of a table. -/
theorem exists_mem_rows {α : Type} {n : Nat} {t : Table α n} {p : α → Prop} :
    (∃ x ∈ t.rows, p x) ↔ ∃ i, p (t.get i) := by
  constructor
  · rintro ⟨x, hx, h⟩
    obtain ⟨k, hk, rfl⟩ := List.getElem_of_mem hx
    exact ⟨⟨k, t.size ▸ hk⟩, h⟩
  · rintro ⟨i, h⟩
    exact ⟨t.get i, List.getElem_mem _, h⟩

/-- ANY_ALERT. -/
theorem anyAlert_iff : anyAlert s = true ↔ ∃ i, (gauge i s).state = .alert := by
  have h : anyAlert s = true ↔ ∃ g ∈ s.gsc.gauges.rows, g.state = .alert := by simp [anyAlert]
  exact h.trans exists_mem_rows

/-- The claims of one property, by what it was and is. -/
theorem propertyClaims_cases {enter leave : Nat → Instr} {was now : Bool} {P Q : Prop} {y z : Nat} (hw : was = true ↔ P)
    (hn : now = true ↔ Q) :
    (¬ P → ¬ Q → propertyClaims enter leave was now y z = []) ∧
    (¬ P → Q → propertyClaims enter leave was now y z = [enter z]) ∧
    (P → ¬ Q → propertyClaims enter leave was now y z = [leave y]) ∧
    (P → Q → propertyClaims enter leave was now y z = if y = z then [] else [leave y, enter z]) := by
  rw [← hw, ← hn]
  cases was <;> cases now <;> simp [propertyClaims]

theorem countedOver_iff {g : Gauge} : g.countedOver = true ↔ g.state ≠ .vacant ∧ (g.state = .over ∨ g.overHeld = true) := by
  simp [Gauge.countedOver]

theorem countedFault_iff {g : Gauge} : g.countedFault = true ↔ ∃ c, g.state = .fault c := by
  cases h : g.state <;> simp [Gauge.countedFault, h, GaugeState.cause?]

/-- Settles O47: the claims by property, the ZERO left, the SHUNT ended. -/
theorem partsOfAGaugeEvent : Obligations.PartsOfAGaugeEvent :=
  ⟨fun _ => anyAlert_iff,
    fun _ _ => ⟨_, _, rfl, propertyClaims_cases countedOver_iff countedOver_iff,
      propertyClaims_cases countedFault_iff countedFault_iff⟩,
    fun _ _ _ h => leaveZero_none h, fun _ _ _ _ h => ⟨leaveZero_goesOn h, leaveZero_last h⟩, endShunt_eq⟩

/-! ### What a reading does to its record (R96, R97, R101) -/

section
variable {g : Gauge} {flag : Bool} {value : Int} {c : GaugeCause} {misses : Nat}

/-- The record returned from a fault of the bridge. -/
theorem returned_eq : g.returned =
    { g with state := if g.state = .fault .open ∨ g.state = .fault .range then .waiting else g.state } := by
  unfold Gauge.returned
  split
  · next h => simp [h]
  · next h => simp [h]
  · next h1 h2 =>
    have : ¬ (g.state = .fault .open ∨ g.state = .fault .range) := fun h => h.elim h1 h2
    rw [if_neg this]

/-- A bad reading, by the record's state. -/
theorem badReading_eq : badReading c g =
    if g.state ∈ [.waiting, .quiet, .alert, .over] then g.enterFault c
    else if g.state = .fault .open ∨ g.state = .fault .range then { g with state := .fault c } else g := by
  unfold badReading
  split
  all_goals
    next h => simp [h]

/-- A good reading. -/
theorem goodReading_eq :
    let back := { g with
      lastGood := some value
      state := if g.state = .fault .open ∨ g.state = .fault .range then .waiting else g.state }
    goodReading flag value g = {
      gauge := if g.zeroPending = true then { back with zero := value, zeroPending := false }
        else if back.state ∈ [.waiting, .quiet, .alert, .over] then judge flag value back else back
      zeroed := g.zeroPending } := by
  intro back
  have hb : Gauge.returned { g with lastGood := some value } = back := returned_eq
  unfold goodReading
  rw [hb]
  have hj := judged_iff (st := back.state)
  cases hz : g.zeroPending with
  | true =>
    have hz' : back.zeroPending = true := hz
    simp only [hz', if_true]
  | false =>
    have hz' : back.zeroPending = false := hz
    simp only [hz', Bool.false_eq_true, if_false, hj]
    split <;> rfl

/-- The shunted reading passes. -/
theorem shuntPasses_iff :
    g.shuntPasses value = true ↔ (value - g.lastGood.getD 0 - g.shuntStep).natAbs ≤ g.shuntTol := decide_eq_true_iff

theorem shuntRule_pass (h : g.shuntPasses value = true) : shuntRule flag misses .shunted value g =
    { gauge := { g with state := if g.state = .fault .shunt then .waiting else g.state }, shuntEnd := some .pass } := by
  simp only [shuntRule, if_pos h]
  split <;> rfl

theorem shuntRule_fail (h : ¬ g.shuntPasses value = true) :
    shuntRule flag misses .shunted value g = { gauge := g.shuntFault, shuntEnd := some .fail } := by
  simp only [shuntRule, if_neg h]

theorem shuntRule_miss (h : misses < 2) :
    shuntRule flag misses .good value g = { goodReading flag value g with miss := true } := if_neg (by omega)

theorem shuntRule_missed (h : 2 ≤ misses) : shuntRule flag misses .good value g =
    { goodReading flag value g with
      gauge := (goodReading flag value g).gauge.shuntFault, shuntEnd := some .missed, miss := true } := if_pos (by omega)

end

/-! ### The event (R95, R99, R102, R103) -/

/-- The misses of the SHUNT open on a record. -/
theorem missesOf_eq : missesOf i s = (s.gsc.shuntOp.filter fun o => o.gauge == i).elim 0 ShuntOp.misses := by
  unfold missesOf
  cases s.gsc.shuntOp with
  | none => rfl
  | some o => by_cases h : o.gauge = i <;> simp [Option.filter, h]

/-- The record moved, the ZERO it leaves, the miss, the end of the SHUNT. -/
theorem applyEffect_eq (e : ReadingEffect) :
    let t1 := gaugeMoved i e.gauge s
    let t2 := if (gauge i s).zeroPending = true ∧ e.gauge.zeroPending = false then leaveZero 1 e.zeroed t1 else t1
    let t3 := { t2 with gsc := { t2.gsc with
      shuntOp := if e.miss then t2.gsc.shuntOp.map fun o => { o with misses := o.misses + 1 } else t2.gsc.shuntOp } }
    applyEffect i e s = e.shuntEnd.elim t3 fun o => endShunt i o t3 := by
  intro t1 t2 t3
  have leaves : (if (gauge i s).zeroPending && !e.gauge.zeroPending then leaveZero 1 e.zeroed t1 else t1) = t2 := by
    simp only [Bool.and_eq_true, Bool.not_eq_true', t2]
  have misses : (if e.miss then countMiss t2 else t2) = t3 := by
    cases h : e.miss with
    | true => simp only [t3, h, if_true]; rfl
    | false => simp only [t3, h, Bool.false_eq_true, if_false]
  simp only [applyEffect, moveGauge_eq]
  rw [leaves, misses]
  cases e.shuntEnd <;> rfl

/-- Settles O51: the effect on the record by its state and the quality, closed by the parts of the event. -/
theorem readingArrival : Obligations.ReadingArrival := by
  intro k channel q value s hs s0
  have taken : exec (.reading k channel q value) s = .next (takeReading k channel q value s0) := onArrival_free _ _ hs
  rw [taken]
  refine ⟨fun h => ?ignored, fun i hc hm => ?found⟩
  case ignored =>
    have none : gaugeAt k channel.toNat s0 = none := by
      by_cases hc : channel.toNat < 128
      · exact (gaugeAt_eq hc).trans (h.resolve_left (by omega))
      · exact if_neg hc
    simp only [takeReading, none]
  case found =>
    intro g flag judged misses fault bad back good shuntFault passes closed gives
    have here : gaugeAt k channel.toNat s0 = some i := (gaugeAt_eq hc).trans hm
    have event : ∀ e, readingEffect flag s.gsc.interval (missesOf i s0) q value.toInt (gauge i s) = e →
        takeReading k channel q value s0 = closed e.gauge e.zeroed e.miss e.shuntEnd := by
      intro e he
      have read : takeReading k channel q value s0 = readGauge i q value.toInt s0 := by simp only [takeReading, here]
      have effect : readingEffect (loadFlagOf (gauge i s0).zone s0) s0.gsc.interval (missesOf i s0) q value.toInt
          (gauge i s0) = e := he
      rw [read, readGauge, alertEvent_eq, effect, applyEffect_eq]
      cases e.shuntEnd <;> rfl
    have hmisses : missesOf i s0 = misses := missesOf_eq
    rw [hmisses] at event
    have hbad : ∀ c, badReading c g = bad c := fun c => badReading_eq
    have hgood : goodReading flag value.toInt g = { gauge := good, zeroed := g.zeroPending } := goodReading_eq
    have hpasses : g.shuntPasses value.toInt = true ↔ passes := shuntPasses_iff
    refine ⟨fun h => congrArg _ (event _ (if_pos h)), fun h hp => ?quality, fun h hp => ?shunt⟩
    case quality =>
      have rule : readingEffect flag s.gsc.interval misses q value.toInt (gauge i s) =
          qualityRule flag q value.toInt g := (if_neg h).trans (if_neg (ne_true_of_eq_false hp))
      refine ⟨fun hq => ?_, fun hq => ?_, fun hq => ?_, fun hq => ?_⟩ <;> subst hq
      · exact congrArg _ (event { gauge := bad .open } (by rw [rule, qualityRule, hbad]))
      · exact congrArg _ (event { gauge := bad .range } (by rw [rule, qualityRule, hbad]))
      · exact congrArg _ (event { gauge := g } rule)
      · exact congrArg _ (event { gauge := good, zeroed := g.zeroPending } (rule.trans hgood))
    case shunt =>
      have rule : readingEffect flag s.gsc.interval misses q value.toInt (gauge i s) =
          shuntRule flag misses q value.toInt g := (if_neg h).trans (if_pos hp)
      have abandons : (if g.state.judged = true then some ShuntOutcome.abandoned else none) =
          if judged g then some .abandoned else none := if_congr judged_iff rfl rfl
      refine ⟨fun hq => ?_, fun hq => ?_, fun hq hpass => ?_, fun hq hpass => ?_, fun hq hn => ?_, fun hq hn => ?_⟩ <;>
        subst hq
      · refine congrArg _ (event { gauge := bad .open, shuntEnd := if judged g then some .abandoned else none } ?_)
        rw [rule, shuntRule, hbad, abandons]
      · refine congrArg _ (event { gauge := bad .range, shuntEnd := if judged g then some .abandoned else none } ?_)
        rw [rule, shuntRule, hbad, abandons]
      · exact congrArg _ (event
          { gauge := { g with state := if g.state = .fault .shunt then .waiting else g.state }, shuntEnd := some .pass }
          (rule.trans (shuntRule_pass (hpasses.2 hpass))))
      · exact congrArg _ (event { gauge := shuntFault g, shuntEnd := some .fail }
          (rule.trans (shuntRule_fail (mt hpasses.1 hpass))))
      · refine congrArg _ (event { gauge := good, zeroed := g.zeroPending, miss := true } ?_)
        rw [rule, shuntRule_miss hn, hgood]
      · refine congrArg _ (event
          { gauge := shuntFault good, zeroed := g.zeroPending, shuntEnd := some .missed, miss := true } ?_)
        rw [rule, shuntRule_missed hn, hgood]
        rfl

end Sys2Proof.Machine
end

section
/-! Scan frames and the scanner links (R92 to R94, R196). -/
namespace Sys2Proof.Machine

variable {s : State} {k : Fin Config.scanners}

/-! ### The bytes of a frame -/

/-- The byte of a quality (11.5). -/
def qualityByte : Quality → Byte
  | .good => 0
  | .overrange => 1
  | .open => 2
  | .shunted => 3

theorem qualityOf_eq_some_iff {b : Byte} {q : Quality} : qualityOf b = some q ↔ b = qualityByte q := by
  constructor
  · intro h
    unfold qualityOf at h
    split at h
    case h_5 => cases h
    all_goals
      next hb =>
        cases h
        exact (byte_eq_iff (by decide)).1 hb
  · rintro rfl
    cases q <;> rfl

/-- Two bytes and the number they are. -/
theorem bits16_eq_iff {v0 v1 : Byte} {v : BitVec 16} :
    v = bits16 v0 v1 ↔ v0 = BitVec.ofNat 8 v.toNat ∧ v1 = BitVec.ofNat 8 (v.toNat / 256) := by
  have h0 := v0.isLt
  have h1 := v1.isLt
  have hv := v.isLt
  rw [bits16, u16, ← BitVec.toNat_inj, ← BitVec.toNat_inj, ← BitVec.toNat_inj, BitVec.toNat_ofNat, BitVec.toNat_ofNat,
    BitVec.toNat_ofNat]
  omega

/-- The four bytes of a reading. -/
def readingBytes (r : FrameReading) : List Byte :=
  [r.channel, qualityByte r.quality, BitVec.ofNat 8 r.value.toNat, BitVec.ofNat 8 (r.value.toNat / 256)]

/-- A frame's readings are those its bytes spell. -/
theorem parseReadings_eq_some_iff {bytes : List Byte} {rs : List FrameReading} :
    parseReadings bytes = some rs ↔ bytes = rs.flatMap readingBytes := by
  constructor
  · fun_induction parseReadings bytes generalizing rs with
    | case1 => rintro ⟨⟩; rfl
    | case2 ch q v0 v1 rest ql ts hts hq ih =>
      rintro ⟨⟩
      obtain ⟨e0, e1⟩ := bits16_eq_iff.1 (rfl : bits16 v0 v1 = _)
      rw [List.flatMap_cons, ← ih hts, readingBytes, ← qualityOf_eq_some_iff.1 hq, ← e0, ← e1]
      rfl
    | case3 => rintro ⟨⟩
    | case4 => rintro ⟨⟩
  · rintro rfl
    induction rs with
    | nil => rfl
    | cons r rs ih =>
      have hq : qualityOf (qualityByte r.quality) = some r.quality := qualityOf_eq_some_iff.2 rfl
      have hv : r.value = bits16 _ _ := bits16_eq_iff.2 ⟨rfl, rfl⟩
      rw [List.flatMap_cons]
      show parseReadings (r.channel :: qualityByte r.quality :: _ :: _ :: rs.flatMap readingBytes) = _
      rw [parseReadings]
      simp only [hq, ih, ← hv]

/-- The readings of four bytes each. -/
theorem length_readingBytes (rs : List FrameReading) : (rs.flatMap readingBytes).length = 4 * rs.length := by
  induction rs with
  | nil => rfl
  | cons r rs ih => rw [List.flatMap_cons, List.length_append, ih, List.length_cons, readingBytes]; simp; omega

/-- A good frame, byte by byte. -/
theorem parseScanFrame_eq_some_iff {unit : List Byte} {rs : List FrameReading} : parseScanFrame unit = some rs ↔
    1 ≤ rs.length ∧ rs.length ≤ 128 ∧
      unit = sealUnit ([0x91, BitVec.ofNat 8 rs.length] ++ rs.flatMap readingBytes) := by
  constructor
  · intro h
    unfold parseScanFrame at h
    split at h
    · next ty count rest ho =>
      split at h
      · next hok =>
        obtain ⟨rfl, h1, h2, hl⟩ := hok
        have hr := parseReadings_eq_some_iff.1 h
        have hn : count.toNat = rs.length := by rw [hr, length_readingBytes] at hl; omega
        refine ⟨hn ▸ h1, hn ▸ h2, ?_⟩
        rw [openUnit_eq_some.1 ho, ← hr, ← (byte_eq_iff (lt_of_le_of_lt (hn ▸ h2) (by decide))).1 hn]
        rfl
      · cases h
    · cases h
  · rintro ⟨h1, h2, rfl⟩
    have ho := openUnit_eq_some.2 (rfl : sealUnit ([0x91, BitVec.ofNat 8 rs.length] ++ rs.flatMap readingBytes) = _)
    have hn : (BitVec.ofNat 8 rs.length : Byte).toNat = rs.length := Nat.mod_eq_of_lt (lt_of_le_of_lt h2 (by decide))
    have count : 1 ≤ (BitVec.ofNat 8 rs.length : Byte).toNat ∧ (BitVec.ofNat 8 rs.length : Byte).toNat ≤ 128 ∧
        (rs.flatMap readingBytes).length = 4 * (BitVec.ofNat 8 rs.length : Byte).toNat := by
      rw [hn]
      exact ⟨h1, h2, length_readingBytes rs⟩
    rw [parseScanFrame, ho]
    exact (if_pos ⟨rfl, count⟩).trans (parseReadings_eq_some_iff.2 rfl)

/-! ### A good frame at GSC (R92, R94) -/

theorem takeScanFrame_bad {unit : List Byte} (h : parseScanFrame unit = none) : takeScanFrame k unit s = s := by
  simp only [takeScanFrame, h]

theorem takeScanFrame_good {unit : List Byte} {rs : List FrameReading} (h : parseScanFrame unit = some rs) :
    takeScanFrame k unit s =
      sendAll (rs.map fun r => .reading k r.channel r.quality r.value) (takeLink k s) := by
  simp only [takeScanFrame, h]

theorem takeLink_kept (h : (scannerLink k s).state ≠ .lost) :
    takeLink k s = setScannerLink k { state := .live, timer := some s.gsc.linkTimeout } s := if_neg h

theorem takeLink_returns (h : (scannerLink k s).state = .lost) :
    takeLink k s = moveGauges (returnedGauge k) (send (.linkReport (.scanner k) false)
      (setScannerLink k { state := .live, timer := some s.gsc.linkTimeout } s)) := if_pos h

/-! ### The loss of a link (R93) -/

/-- Entries counted by number. -/
theorem countP_rows {α : Type} {n : Nat} (t : Table α n) (p : α → Bool) :
    t.rows.countP p = (List.finRange n).countP fun i => p (t.get i) := by
  have rows : t.rows = (List.finRange n).map t.get :=
    List.ext_getElem (by simp [t.size]) fun j h1 h2 => by simp [Table.get]
  rw [rows, List.countP_map]
  rfl

/-- A judged record of the scanner. -/
theorem lostGauge_eq (g : Gauge) : lostGauge k g =
    if g.scanner = k ∧ g.state ∈ [.waiting, .quiet, .alert, .over] then
      { g.enterFault .link with overHeld := g.overHeld || g.state == .over }
    else g := if_congr (and_congr_right fun _ => judged_iff) rfl rfl

theorem lostGauge_scanner (g : Gauge) : (lostGauge k g).scanner = g.scanner := by
  unfold lostGauge
  split <;> rfl

/-- A ZERO left keeps the records and the SHUNT. -/
theorem leaveZero_kept (n : Nat) (zeroed : Bool) :
    (leaveZero n zeroed s).gsc.gauges = s.gsc.gauges ∧ (leaveZero n zeroed s).gsc.shuntOp = s.gsc.shuntOp := by
  cases hz : s.gsc.zeroOp with
  | none => rw [leaveZero_none hz]; exact ⟨rfl, rfl⟩
  | some z =>
    rcases Nat.lt_or_ge n z.pending with hn | hn
    · rw [leaveZero_goesOn hz hn]; exact ⟨rfl, rfl⟩
    · rw [leaveZero_last hz hn]; exact ⟨rfl, rfl⟩

/-- So do all that leave it. -/
theorem leaves_kept {t : State} (n : Nat) :
    (if n = 0 then t else leaveZero n false t).gsc.gauges = t.gsc.gauges ∧
    (if n = 0 then t else leaveZero n false t).gsc.shuntOp = t.gsc.shuntOp := by
  split
  · exact ⟨rfl, rfl⟩
  · exact leaveZero_kept n false

/-- The SHUNT on a lost scanner. -/
theorem abandonShuntOn_other (h : ∀ o, s.gsc.shuntOp = some o → (gauge o.gauge s).scanner ≠ k) :
    abandonShuntOn k s = s := by
  unfold abandonShuntOn
  split
  · next o ho => exact if_neg (h o ho)
  · rfl

theorem abandonShuntOn_here {o : ShuntOp} (ho : s.gsc.shuntOp = some o) (h : (gauge o.gauge s).scanner = k) :
    abandonShuntOn k s = endShunt o.gauge .abandoned s := by
  simp only [abandonShuntOn, ho, if_pos h]

/-- The loss of a link by its parts: the records moved, those that leave the ZERO, the SHUNT. -/
theorem loseScanner_eq {t : State} {n : Nat} (ht : moveGauges (lostGauge k) (send (.linkReport (.scanner k) true)
      (setScannerLink k { state := .lost, timer := none } s)) = t) (hn : lostPending k s = n) :
    loseScanner k s = abandonShuntOn k (if n = 0 then t else leaveZero n false t) := by
  subst ht hn
  rfl

/-- Settles O50: the frame by its bytes, the link by its state, the loss by the SHUNT in progress. -/
theorem scanFramesAndLinkTimers : Obligations.ScanFramesAndLinkTimers := by
  unfold Obligations.ScanFramesAndLinkTimers
  intro quality
  refine ⟨fun unit rs => ?bytes, fun k unit s hs => ?frame, fun k s hs => ?expiry⟩
  case bytes =>
    have hq : quality = qualityByte := by funext q; cases q <;> rfl
    rw [hq]
    exact parseScanFrame_eq_some_iff
  case frame =>
    intro good back
    have taken : exec (.scanFrame k unit) s = .next (takeScanFrame k unit s) :=
      congrArg Host.Outcome.next (unlessHeld_free _ hs)
    rw [taken]
    refine ⟨fun h => congrArg _ (takeScanFrame_bad h), fun rs h => ?_⟩
    intro readings
    rw [takeScanFrame_good h]
    refine ⟨fun hl => ?kept, fun hl => ?returns⟩
    case kept => rw [takeLink_kept hl]; rfl
    case returns => rw [takeLink_returns hl]; rfl
  case expiry =>
    intro hurt lost leaving s1 s2
    have taken : exec (.scannerLinkTimerExpiry k) s = .next (takeScannerTimerExpiry k s) :=
      congrArg Host.Outcome.next (unlessHeld_free _ hs)
    rw [taken]
    refine ⟨fun h => congrArg _ (if_pos h), fun h => ?_⟩
    have hlost : lost = lostGauge k := funext fun g => (lostGauge_eq g).symm
    have expires : takeScannerTimerExpiry k s = withAlertEdge s (loseScanner k s) :=
      (if_neg h).trans (alertEvent_eq _ _)
    have pending : lostPending k s = leaving := by
      rw [lostPending, countP_rows]
      refine List.countP_congr fun i _ => ?_
      have zero : (lostGauge k (gauge i s)).zeroPending = true ↔ ¬ hurt (gauge i s) ∧ (gauge i s).zeroPending = true := by
        rw [lostGauge_eq]
        split
        · next hh => exact iff_of_false Bool.noConfusion fun hn => hn.1 hh
        · next hh => exact (and_iff_right hh).symm
      show ((gauge i s).zeroPending && !(lostGauge k (gauge i s)).zeroPending) = true ↔ _
      rw [Bool.and_eq_true, Bool.not_eq_true', ← Bool.not_eq_true, zero, decide_eq_true_iff]
      exact ⟨fun ⟨hz, hn⟩ => ⟨not_not.1 fun hh => hn ⟨hh, hz⟩, hz⟩, fun ⟨hh, hz⟩ => ⟨hz, fun ⟨hn, _⟩ => hn hh⟩⟩
    clear_value leaving
    have moved : moveGauges (lostGauge k) (send (.linkReport (.scanner k) true)
        (setScannerLink k { state := .lost, timer := none } s)) = s1 := by rw [moveGauges_eq, ← hlost]; rfl
    have loses : loseScanner k s = abandonShuntOn k s2 := loseScanner_eq moved pending
    have kept : s2.gsc.gauges = s.gsc.gauges.map lost ∧ s2.gsc.shuntOp = s.gsc.shuntOp := leaves_kept (t := s1) leaving
    obtain ⟨hgauges, hshunt⟩ := kept
    have scanner : ∀ i, (gauge i s2).scanner = (gauge i s).scanner := fun i => by
      rw [gauge, hgauges, Table.get_map, hlost, lostGauge_scanner]
      rfl
    rw [expires, loses]
    refine ⟨fun ho => ?other, fun o ho hk => ?here⟩
    case other => rw [abandonShuntOn_other fun o e => by rw [scanner]; exact ho o (hshunt ▸ e)]
    case here => rw [abandonShuntOn_here (hshunt.trans ho) ((scanner o.gauge).trans hk)]

end Sys2Proof.Machine
end

section
/-! Loop lines and loop requests (R126, R129 to R131). -/
namespace Sys2Proof.Machine

variable {l : Fin Config.loops} {s : State}

/-- What the owner does to the record a byte names is answered DONE, in the state it makes of its own. -/
theorem recordRequest_done {n : Nat} {i : Fin n} {code b : Byte} {f : Fin n → State → Taken} {t : State} (h : PortFree s)
    (k : keepsAmend code = false) (hb : b.toNat = i.val) (ht : f i (atOwner code s) = done (atOwner code t)) :
    hostRequest code (oneByte (indexed f)) [1, b] s = .next (answered code (doneWith []) t) := by
  rw [recordRequest_taken h k hb, ht]; rfl

/-! ### The line (R126) -/

section
variable {r : Loop}

theorem Loop.line_opens (h : r.state = .intact) :
    r.line false = { r with closed := false, state := .opening, timer := some r.confirmTime } := by
  simp only [Loop.line, h]

theorem Loop.line_closes (h : r.state = .opening) :
    r.line true = { r with closed := true, state := .intact, timer := none } := by
  simp only [Loop.line, h]

theorem Loop.line_flag {closed : Bool} (h1 : ¬ (r.state = .intact ∧ closed = false))
    (h2 : ¬ (r.state = .opening ∧ closed = true)) : r.line closed = { r with closed := closed } := by
  unfold Loop.line
  split
  · next h => exact absurd ⟨h, rfl⟩ h1
  · next h => exact absurd ⟨h, rfl⟩ h2
  · rfl

end

theorem takeLineChange_free {closed : Bool} (hs : s.resetHeld = false) : takeLineChange l closed s =
    { s with
      loopInputs := s.loopInputs.set l closed
      cwu := { s.cwu with loops := s.cwu.loops.set l ((loop l s).line closed) } } :=
  unlessHeld_free (s := setLoopInput l closed s) _ hs

/-! ### The requests (R129 to R131) -/

theorem takeEnableLoop_state (h : (loop l s).state ≠ .unused) : takeEnableLoop l s = refuse s .state := if_pos h

theorem takeEnableLoop_open (h : (loop l s).state = .unused) (hc : (loop l s).closed = false) :
    takeEnableLoop l s = refuse s .stillOpen := (if_neg (not_not.2 h)).trans (if_pos hc)

theorem takeEnableLoop_done (h : (loop l s).state = .unused) (hc : (loop l s).closed = true) :
    takeEnableLoop l s = done (setLoop l { loop l s with state := .intact } s) :=
  (if_neg (not_not.2 h)).trans (if_neg (by simp [hc]))

theorem takeRearmLoop_state (h : (loop l s).state ≠ .broken) : takeRearmLoop l s = refuse s .state := if_pos h

theorem takeRearmLoop_open (h : (loop l s).state = .broken) (hc : (loop l s).closed = false) :
    takeRearmLoop l s = refuse s .stillOpen := (if_neg (not_not.2 h)).trans (if_pos hc)

theorem takeRearmLoop_done (h : (loop l s).state = .broken) (hc : (loop l s).closed = true) :
    takeRearmLoop l s = done (setLoop l { loop l s with state := .intact, bound := none } (unlistLoop l s)) :=
  (if_neg (not_not.2 h)).trans (if_neg (by simp [hc]))

theorem unlistLoop_unbound (h : (loop l s).bound = none) : unlistLoop l s = s := by
  simp only [unlistLoop, h]

theorem unlistLoop_bound {i : Fin Config.cracks} (h : (loop l s).bound = some i) :
    unlistLoop l s = setCrack i { crack i s with loops := (crack i s).loops.erase l } s := by
  simp only [unlistLoop, h]

theorem takeDisableLoop_done (h : (loop l s).state = .intact ∨ (loop l s).state = .opening) :
    takeDisableLoop l s = done (setLoop l { loop l s with state := .unused, timer := none } s) := by
  rcases h with h | h <;> simp only [takeDisableLoop, h]

theorem takeDisableLoop_state (h : (loop l s).state = .unused ∨ (loop l s).state = .broken) :
    takeDisableLoop l s = refuse s .state := by
  rcases h with h | h <;> simp only [takeDisableLoop, h]

/-- Settles O54: the line by the loop's state, each clause of a request one outcome at CWU. -/
theorem loopLinesAndRequests : Obligations.LoopLinesAndRequests := by
  refine ⟨fun l closed s hs => ?lines, fun b s hp hb => ⟨recordRequest_outOfRange hp rfl hb,
    recordRequest_outOfRange hp rfl hb, recordRequest_outOfRange hp rfl hb⟩, fun l b s hp hb => ?requests⟩
  case lines =>
    intro r put
    have taken : exec (.loopLineChange l closed) s = .next (put (r.line closed)) :=
      congrArg Host.Outcome.next (takeLineChange_free hs)
    rw [taken]
    refine ⟨fun h hc => ?opens, fun h hc => ?closes, fun h1 h2 => ?flag⟩
    case opens => subst hc; rw [Loop.line_opens h]
    case closes => subst hc; rw [Loop.line_closes h]
    case flag => rw [Loop.line_flag h1 h2]
  case requests =>
    intro r put freed
    refine ⟨fun h => ?enableState, fun h hc => ?enableOpen, fun h hc => ?enable, fun h => ?rearmState,
      fun h hc => ?rearmOpen, fun h hc => ⟨fun hn => ?rearmUnbound, fun i hi => ?rearmBound⟩, fun h => ?disable,
      fun h => ?disableState⟩
    case enableState => exact recordRequest_refused hp rfl hb (takeEnableLoop_state (s := atOwner 0x70 s) h)
    case enableOpen => exact recordRequest_refused hp rfl hb (takeEnableLoop_open (s := atOwner 0x70 s) h hc)
    case enable => exact recordRequest_done hp rfl hb (takeEnableLoop_done (s := atOwner 0x70 s) h hc)
    case rearmState => exact recordRequest_refused hp rfl hb (takeRearmLoop_state (s := atOwner 0x71 s) h)
    case rearmOpen => exact recordRequest_refused hp rfl hb (takeRearmLoop_open (s := atOwner 0x71 s) h hc)
    case rearmUnbound =>
      refine recordRequest_done hp rfl hb ?_
      rw [takeRearmLoop_done (s := atOwner 0x71 s) h hc, unlistLoop_unbound (s := atOwner 0x71 s) hn]
      rfl
    case rearmBound =>
      refine recordRequest_done hp rfl hb ?_
      rw [takeRearmLoop_done (s := atOwner 0x71 s) h hc, unlistLoop_bound (s := atOwner 0x71 s) hi]
      rfl
    case disable => exact recordRequest_done hp rfl hb (takeDisableLoop_done (s := atOwner 0x72 s) h)
    case disableState => exact recordRequest_refused hp rfl hb (takeDisableLoop_state (s := atOwner 0x72 s) h)

end Sys2Proof.Machine
end

section
/-! Crack events as a whole, and the crack requests (R146 to R149, R160 to R163). -/
namespace Sys2Proof.Machine

variable {i : Fin Config.cracks} {s : State} {e : CrackEvent}

/-! ### Events -/

/-- Everything the end of an event does. -/
theorem finish_eq : e.finish = crackEnded e.classes e.zones e.notices e.state := rfl

/-- The zones of an event once a record touches one. -/
theorem touch_eq (z : Nat) : e.touch i z = { e with
    zones := if crackPassed e.state i.val then addOnce z e.zones else e.zones } := by
  unfold CrackEvent.touch
  split <;> rfl

/-- A record's first touch of an event. -/
theorem touch_first {z : Nat} (h : e.zones = []) : e.touch i z = { e with zones := touched e.state i z } := by
  rw [touch_eq, h]
  rfl

/-- A record opened. -/
def Crack.fresh (st : CrackState) (o : Origin) (x lo hi w d : Nat) (s : State) : Crack :=
  { state := st, origin := some o, seed := x, zone := decodeStation x s, lo := lo, hi := hi, confWidth := w,
    openedPass := s.lsq.passCount, derate := d }

/-- Everything the opening of a record does. -/
theorem openRecord_eq (o : Origin) (x lo hi : Nat) (st : CrackState) (d w : Nat) (h : e.zones = []) :
    openRecord i o x lo hi st d w e = {
      state := crackPut i (Crack.fresh st o x lo hi w d e.state) e.state
      zones := touched e.state i (decodeStation x e.state)
      classes := addOnce .crackOpened e.classes
      notices := e.notices } :=
  touch_first (e := (e.map (setCrack i (Crack.fresh st o x lo hi w d e.state))).raise .crackOpened) h

/-- Everything a confirmation does. -/
theorem confirmRecord_eq (h : e.zones = []) : confirmRecord i e = {
    state := crackPut i ((crack i e.state).confirmed e.state.cwu.confirmDerate) e.state
    zones := touched e.state i (crack i e.state).zone
    classes := addOnce .crackState e.classes
    notices := e.notices } :=
  touch_first (e := (e.map (setCrack i ((crack i e.state).confirmed e.state.cwu.confirmDerate))).raise .crackState) h

/-- The loops of a list bound to none. -/
def unbound (ls : List (Fin Config.loops)) (t : Table Loop Config.loops) : Table Loop Config.loops :=
  ls.foldl (fun t l => t.set l { t.get l with bound := none }) t

theorem unbindLoops_unbound (ls : List (Fin Config.loops)) (s : State) :
    unbindLoops ls s = { s with cwu := { s.cwu with loops := unbound ls s.cwu.loops } } := by
  induction ls generalizing s with
  | nil => rfl
  | cons x xs ih =>
    rw [unbindLoops, List.foldl_cons]
    exact (ih _).trans rfl

/-- Record `i` vacated, its loops unbound. -/
def crackVacated (i : Fin Config.cracks) (s : State) : State :=
  { crackPut i {} s with cwu := { (crackPut i {} s).cwu with loops := unbound (crack i s).loops s.cwu.loops } }

theorem loop_crackVacated (l : Fin Config.loops) :
    loop l (crackVacated i s) = if l ∈ (crack i s).loops then { loop l s with bound := none } else loop l s := by
  rw [← loop_unbindLoops, unbindLoops_unbound]
  rfl

/-- Everything a lapse or a retirement does. -/
theorem vacateRecord_eq (h : e.zones = []) : vacateRecord i e = {
    state := crackVacated i e.state
    zones := touched e.state i (crack i e.state).zone
    classes := addOnce .crackState e.classes
    notices := e.notices } := by
  have vacated : setCrack i {} (unbindLoops (crack i e.state).loops e.state) = crackVacated i e.state := by
    rw [unbindLoops_unbound]
    rfl
  have first := touch_first (i := i) (z := (crack i e.state).zone)
    (e := (e.map fun s => setCrack i {} (unbindLoops (crack i e.state).loops s)).raise .crackState) h
  refine first.trans ?_
  simp only [CrackEvent.raise, CrackEvent.map, vacated]
  rfl

/-- The lowest VACANT id. -/
theorem vacantId_eq_some (hv : (crack i s).state = .vacant) (h : ∀ j, j < i → (crack j s).state ≠ .vacant) :
    vacantId s = some i := by
  rw [vacantId, indices_eq_finRange]
  refine List.find?_eq_some_iff_getElem.2 ⟨by simp [hv], i.val, by simp, by simp, fun j hj => ?_⟩
  simpa using h ⟨j, hj.trans i.isLt⟩ hj

theorem vacantId_eq_none_iff : vacantId s = none ↔ ∀ i, (crack i s).state ≠ .vacant := by
  simp [vacantId, List.find?_eq_none, mem_indices]

/-! ### OPEN CRACK (R160) -/

theorem openableState_eq_some_iff {b : Byte} {st : CrackState} :
    openableState b = some st ↔ (b = 1 ∧ st = .suspect) ∨ (b = 2 ∧ st = .confirmed) := by
  constructor
  · intro h
    unfold openableState at h
    split at h
    · next hb => cases h; exact .inl ⟨(byte_eq_iff (by decide)).1 hb, rfl⟩
    · next hb => cases h; exact .inr ⟨(byte_eq_iff (by decide)).1 hb, rfl⟩
    · cases h
  · rintro (⟨rfl, rfl⟩ | ⟨rfl, rfl⟩) <;> rfl

section
variable {x0 x1 l0 l1 h0 h1 st d : Byte} {cs : CrackState}

theorem parseOpenCrack_fits (hst : openableState st = some cs) (h : u16 l0 l1 ≤ u16 x0 x1 ∧ u16 x0 x1 ≤ u16 h0 h1 ∧
    u16 h0 h1 ≤ 65000 ∧ d.toNat ≤ 100) : parseOpenCrack [x0, x1, l0, l1, h0, h1, st, d] s =
      takeOpenCrack (u16 x0 x1) (u16 l0 l1) (u16 h0 h1) cs d.toNat s := by
  simp only [parseOpenCrack, hst]
  exact if_pos h

theorem parseOpenCrack_range (h : ¬ (u16 l0 l1 ≤ u16 x0 x1 ∧ u16 x0 x1 ≤ u16 h0 h1 ∧ u16 h0 h1 ≤ 65000 ∧
    d.toNat ≤ 100 ∧ (st = 1 ∨ st = 2))) : parseOpenCrack [x0, x1, l0, l1, h0, h1, st, d] s = refuse s .range := by
  simp only [parseOpenCrack]
  split
  · next cs hst =>
    refine if_neg fun ⟨hl, hh, hm, hd⟩ => h ⟨hl, hh, hm, hd, ?_⟩
    exact (openableState_eq_some_iff.1 hst).imp And.left And.left
  · rfl

end

theorem takeOpenCrack_full {x lo hi d : Nat} {st : CrackState} (h : vacantId s = none) :
    takeOpenCrack x lo hi st d s = refuse s .tableFull := by
  simp only [takeOpenCrack, h]

theorem takeOpenCrack_done {x lo hi d : Nat} {st : CrackState} (h : vacantId s = some i) :
    takeOpenCrack x lo hi st d s = done (crackEnded [.crackOpened] (touched s i (decodeStation x s)) []
      (crackPut i (Crack.fresh st .inspection x lo hi (if st = .confirmed then hi - lo else 0) d s) s)) [byteOf i.val] := by
  simp only [takeOpenCrack, h, finish_eq, openRecord_eq (e := crackEvent s) _ _ _ _ _ _ _ rfl]
  rfl

/-! ### CONFIRM, ARREST and RETIRE CRACK (R161 to R163) -/

theorem takeConfirmCrack_done (h : (crack i s).state = .suspect) : takeConfirmCrack i s =
    done (crackEnded [.crackState] (touched s i (crack i s).zone) []
      (crackPut i ((crack i s).confirmed s.cwu.confirmDerate) s)) := by
  rw [takeConfirmCrack, if_pos h, finish_eq, confirmRecord_eq (e := crackEvent s) rfl]
  rfl

theorem takeArrestCrack_done (h : (crack i s).state = .confirmed) : takeArrestCrack i s =
    done (crackEnded [.crackState] (touched s i (crack i s).zone) []
      (crackPut i { crack i s with state := .arrested, derate := s.cwu.arrestDerate } s)) := by
  refine (if_pos h).trans ?_
  rw [finish_eq, touch_first rfl]
  rfl

theorem takeRetireCrack_done (h : (crack i s).state = .suspect ∨ (crack i s).state = .arrested) : takeRetireCrack i s =
    done (crackEnded [.crackState] (touched s i (crack i s).zone) [] (crackVacated i s)) := by
  have retires : takeRetireCrack i s = done (vacateRecord i (crackEvent s)).finish := by
    rcases h with h | h <;> simp only [takeRetireCrack, h]
  rw [retires, finish_eq, vacateRecord_eq (e := crackEvent s) rfl]
  rfl

theorem takeRetireCrack_held (h : (crack i s).state = .confirmed) : takeRetireCrack i s = refuse s .confirmedHeld := by
  simp only [takeRetireCrack, h]

theorem takeRetireCrack_state (h : (crack i s).state = .vacant) : takeRetireCrack i s = refuse s .state := by
  simp only [takeRetireCrack, h]

/-- Settles O55: each clause is one outcome of a request at CWU, closed as a crack event. -/
theorem crackRequests : Obligations.CrackRequests := by
  refine ⟨fun x0 x1 l0 l1 h0 h1 st d s hp => ?opening, fun b s hp hb => ⟨recordRequest_outOfRange hp rfl hb,
    recordRequest_outOfRange hp rfl hb, recordRequest_outOfRange hp rfl hb⟩, fun i b s hp hb => ?others⟩
  case opening =>
    intro frame x lo hi fits
    refine ⟨fun h => ?range, fun hf hv => ?full, fun hf i hv hj => ?opened⟩
    case range => exact hostRequest_answered hp rfl rfl (parseOpenCrack_range h)
    case full =>
      obtain ⟨hl, hh, hm, hd, hst⟩ := hf
      obtain ⟨cs, hcs⟩ : ∃ cs, openableState st = some cs := by rcases hst with rfl | rfl <;> exact ⟨_, rfl⟩
      refine hostRequest_answered hp rfl rfl ((parseOpenCrack_fits hcs ⟨hl, hh, hm, hd⟩).trans ?_)
      exact takeOpenCrack_full (s := atOwner 0x80 s) (vacantId_eq_none_iff.2 hv)
    case opened =>
      obtain ⟨hl, hh, hm, hd, hst⟩ := hf
      have free : vacantId (atOwner 0x80 s) = some i := vacantId_eq_some (s := atOwner 0x80 s) hv hj
      rcases hst with rfl | rfl <;> refine hostRequest_answered hp rfl rfl ((parseOpenCrack_fits rfl ⟨hl, hh, hm, hd⟩).trans
        ((takeOpenCrack_done free).trans rfl))
  case others =>
    intro r becomes
    refine ⟨fun h => ?confirm, fun h => ?confirmState, fun h => ?arrest, fun h => ?arrestState, fun h => ?held,
      fun h => ?retireState, fun h => ⟨crackVacated i s, ?retire, ?vacated, fun l => loop_crackVacated l⟩⟩
    case confirm => exact recordRequest_done hp rfl hb (takeConfirmCrack_done (s := atOwner 0x81 s) h)
    case confirmState => exact recordRequest_refused hp rfl hb (if_neg h)
    case arrest => exact recordRequest_done hp rfl hb (takeArrestCrack_done (s := atOwner 0x82 s) h)
    case arrestState => exact recordRequest_refused hp rfl hb (if_neg h)
    case held => exact recordRequest_refused hp rfl hb (takeRetireCrack_held (s := atOwner 0x83 s) h)
    case retireState => exact recordRequest_refused hp rfl hb (takeRetireCrack_state (s := atOwner 0x83 s) h)
    case retire => exact recordRequest_done hp rfl hb (takeRetireCrack_done (s := atOwner 0x83 s) h)
    case vacated => rfl

end Sys2Proof.Machine
end

section
/-! Wire evidence (R127, R152 to R156). -/
namespace Sys2Proof.Machine

variable {i : Fin Config.cracks} {l : Fin Config.loops} {s : State} {e : CrackEvent} {x : Nat}

/-! ### Parts of the evidence -/

/-- Of two changes of a record the second stands. -/
@[simp] theorem crackPut_crackPut (r q : Crack) : crackPut i q (crackPut i r s) = crackPut i q s := by
  simp [crackPut]

@[simp] theorem crack_crackPut (r : Crack) : crack i (crackPut i r s) = r := Table.get_set_same _ _ _

/-- The growth test of a record that has not grown past the limit. -/
theorem growthTest_within (h : ¬ (crack i e.state).growthDue e.state.cwu.growthLimit = true) : growthTest i e = e :=
  if_neg h

/-- The growth test of one that has. -/
theorem growthTest_grown (h : (crack i e.state).growthDue e.state.cwu.growthLimit = true) : growthTest i e = {
    state := crackPut i { crack i e.state with growthHalt := true } e.state
    zones := e.zones
    classes := addOnce .crackState e.classes
    notices := e.notices ++ [.crackGrowth] } := if_pos h

theorem growthDue_iff {limit : Nat} {r : Crack} : r.growthDue limit = true ↔
    limit ≠ 0 ∧ limit < (r.hi - r.lo) - r.confWidth ∧ r.growthHalt = false := by
  simp [Crack.growthDue, and_assoc]

/-- A confirmation after the record's zone was touched. -/
theorem confirmRecord_again (h : e.zones = touched e.state i (crack i e.state).zone) : confirmRecord i e = {
    state := crackPut i ((crack i e.state).confirmed e.state.cwu.confirmDerate) e.state
    zones := touched e.state i (crack i e.state).zone
    classes := addOnce .crackState e.classes
    notices := e.notices } := by
  have again : (if crackPassed e.state i.val then addOnce (crack i e.state).zone e.zones else e.zones) =
      touched e.state i (crack i e.state).zone := by
    rw [h, touched]
    split <;> simp [addOnce]
  rw [← again]
  exact touch_eq (e := (e.map (setCrack i ((crack i e.state).confirmed e.state.cwu.confirmDerate))).raise .crackState) _

/-- Settled: the record evidence joins. -/
theorem joinedRecord_eq_some_iff {wire : Bool} : joinedRecord wire x s = some i ↔ JoinFits wire x s i ∧
    ∀ j, JoinFits wire x s j → j ≠ i →
      (crack i s).openedPass < (crack j s).openedPass ∨ ((crack i s).openedPass = (crack j s).openedPass ∧ i < j) := by
  rw [(joinedRecord_spec wire x s).2 i, Oldest]
  simp only [mem_joinable]

/-! ### The evidence of a loop that breaks (R154, R156) -/

/-- Loop `l` broken, bound as said. -/
def loopBroken (l : Fin Config.loops) (b : Option (Fin Config.cracks)) (s : State) : State :=
  { s with cwu := { s.cwu with loops := s.cwu.loops.set l { loop l s with state := .broken, timer := none, bound := b } } }

/-- A crack record widened to the station of a loop bound to it. -/
def Crack.wired (r : Crack) (x : Nat) (l : Fin Config.loops) : Crack := { r.widen x with loops := r.loops ++ [l] }

/-- A record written and the broken loop bound to it. -/
theorem bindLoop_setCrack (r : Crack) : bindLoop l i (setCrack i r (setLoop l (loop l s).broken s)) =
    crackPut i { r with loops := r.loops ++ [l] } (loopBroken l (some i) s) := by
  have hloop : loop l (setCrack i r (setLoop l (loop l s).broken s)) = (loop l s).broken := Table.get_set_same _ _ _
  rw [bindLoop, crack_setCrack_same, hloop]
  simp only [setCrack, setLoop, onCwu, crackPut, loopBroken, table_set_set]
  rfl

/-- The event once the loop is bound to record `i`, written as `r`. -/
def wiredEvent (i : Fin Config.cracks) (r : Crack) (l : Fin Config.loops) (s : State) : CrackEvent :=
  { state := crackPut i r (loopBroken l (some i) s), classes := [.loopBroken] }

/-- The record the wire evidence leaves, before its confirmation or growth test. -/
theorem wired_event : ((brokenEvent l s).map fun t => bindLoop l i (setCrack i ((crack i s).widen x) t)) =
    wiredEvent i ((crack i s).wired x l) l s :=
  congrArg (CrackEvent.mk · [] [.loopBroken] []) (bindLoop_setCrack _)

section
variable (h : joinedRecord true x s = some i)
include h

theorem wireEvidence_joins : wireEvidence l x (brokenEvent l s) = joinWire l i x (brokenEvent l s) := by
  have h' : joinedRecord true x (brokenEvent l s).state = some i := h
  simp only [wireEvidence, h']

theorem wireEvidence_confirms (hst : (crack i s).state = .suspect ∨ (crack i s).state = .arrested) :
    wireEvidence l x (brokenEvent l s) = confirmRecord i (wiredEvent i ((crack i s).wired x l) l s) := by
  have hc : crack i (brokenEvent l s).state = crack i s := rfl
  rw [wireEvidence_joins h, ← wired_event]
  rcases hst with hst | hst <;> simp only [joinWire, hc, hst]

theorem wireEvidence_tests (hst : (crack i s).state = .confirmed) :
    wireEvidence l x (brokenEvent l s) = growthTest i (wiredEvent i ((crack i s).wired x l) l s) := by
  have hc : crack i (brokenEvent l s).state = crack i s := rfl
  rw [wireEvidence_joins h, ← wired_event]
  simp only [joinWire, hc, hst]

end

section
variable (h : joinedRecord true x s = none)
include h

theorem wireEvidence_opens (hv : vacantId s = some i) : wireEvidence l x (brokenEvent l s) =
    confirmRecord i ((openRecord i .wire x x x .confirmed 100 0 (brokenEvent l s)).map (bindLoop l i)) := by
  have h' : joinedRecord true x (brokenEvent l s).state = none := h
  have hv' : vacantId (brokenEvent l s).state = some i := hv
  simp only [wireEvidence, h', hv']

theorem wireEvidence_full (hv : vacantId s = none) : wireEvidence l x (brokenEvent l s) =
    { (brokenEvent l s).raise .crackTableFull with notices := [.crackTableFull] } := by
  have h' : joinedRecord true x (brokenEvent l s).state = none := h
  have hv' : vacantId (brokenEvent l s).state = none := hv
  simp only [wireEvidence, h', hv']
  rfl

end

/-- The event of a record opened by wire evidence, its loop bound. -/
theorem opened_event : (openRecord i .wire x x x .confirmed 100 0 (brokenEvent l s)).map (bindLoop l i) = {
    state := crackPut i ({ Crack.fresh .confirmed .wire x x x 0 100 s with loops := [l] }) (loopBroken l (some i) s)
    zones := touched s i (decodeStation x s)
    classes := [.loopBroken, .crackOpened] } := by
  rw [openRecord_eq _ _ _ _ _ _ _ rfl]
  exact congrArg (CrackEvent.mk · (touched s i (decodeStation x s)) [.loopBroken, .crackOpened] []) (bindLoop_setCrack _)

/-- Settles O56: the record joined, and one outcome of the evidence per case of it. -/
theorem wireEvidenceHolds : Obligations.WireEvidence := by
  refine ⟨fun wire x s => ⟨(joinedRecord_spec wire x s).1, fun i => joinedRecord_eq_some_iff⟩, fun l s hs => ?_⟩
  intro r x broken
  have taken : exec (.confirmTimerExpiry l) s = .next (takeConfirmTimerExpiry l s) :=
    congrArg Host.Outcome.next (unlessHeld_free _ hs)
  rw [taken]
  refine ⟨fun h => congrArg _ (takeConfirmTimerExpiry_stopped h), fun h => ?_⟩
  rw [takeConfirmTimerExpiry_running h]
  refine ⟨fun i hi => ?joins, fun hn => ⟨fun i hv hj => ?opens, fun hv => ?full⟩⟩
  case joins =>
    intro c wide grown
    refine ⟨fun hst => ?confirms, fun hst hg => ?within, fun hst hg => ?grown⟩
    case confirms =>
      rw [wireEvidence_confirms hi hst, confirmRecord_eq (e := wiredEvent ..) rfl, finish_eq]
      simp only [wiredEvent, crack_crackPut, crackPut_crackPut]
      rfl
    case within =>
      have hg' : ¬ (crack i (wiredEvent i ((crack i s).wired x l) l s).state).growthDue s.cwu.growthLimit = true := by
        rw [wiredEvent, crack_crackPut, growthDue_iff]
        exact hg
      rw [wireEvidence_tests hi hst, growthTest_within hg']
      rfl
    case grown =>
      have hg' : (crack i (wiredEvent i ((crack i s).wired x l) l s).state).growthDue s.cwu.growthLimit = true := by
        rw [wiredEvent, crack_crackPut, growthDue_iff]
        exact hg
      rw [wireEvidence_tests hi hst, growthTest_grown hg', finish_eq]
      simp only [wiredEvent, crack_crackPut, crackPut_crackPut]
      rfl
  case opens =>
    rw [wireEvidence_opens hn (vacantId_eq_some hv hj), opened_event, confirmRecord_again, finish_eq]
    · simp only [crack_crackPut, crackPut_crackPut, Crack.confirmed, Crack.fresh, Nat.sub_self]
      rfl
    · rw [crack_crackPut]; rfl
  case full =>
    rw [wireEvidence_full hn (vacantId_eq_none_iff.2 hv)]
    rfl

end Sys2Proof.Machine
end

section
/-! The sensor line, its neighbours and windows (R134, R138). -/
namespace Sys2Proof.Machine

variable {s : State} {a b c d : Fin Config.sensors}

/-! ### The line -/

theorem sensorLine_perm (s : State) :
    (sensorLine s).Perm ((indices Config.sensors).filter fun c => (sensor c s).enabled) := perm_sortBy _

theorem nodup_sensorLine (s : State) : (sensorLine s).Nodup :=
  (sensorLine_perm s).nodup_iff.2 ((nodup_indices _).filter _)

theorem sensorLine_sorted (s : State) :
    (sensorLine s).Pairwise fun a b => (sensor a s).station ≤ (sensor b s).station := sorted_sortBy _

theorem mem_sensorLine : c ∈ sensorLine s ↔ (sensor c s).enabled = true := by
  rw [(sensorLine_perm s).mem_iff, List.mem_filter]
  exact and_iff_right (mem_indices c)

/-! ### Neighbours -/

/-- The neighbour pairs of a line stand next to each other in it. -/
theorem mem_neighbourPairs {line : List (Fin Config.sensors)} :
    (a, b) ∈ neighbourPairs line ↔ ∃ pre post, line = pre ++ a :: b :: post := by
  fun_induction neighbourPairs line with
  | case1 x y rest ih =>
    rw [List.mem_cons, ih, Prod.mk.injEq]
    constructor
    · rintro (⟨rfl, rfl⟩ | ⟨pre, post, h⟩)
      · exact ⟨[], rest, rfl⟩
      · exact ⟨x :: pre, post, by rw [h]; rfl⟩
    · rintro ⟨pre, post, h⟩
      cases pre with
      | nil => cases h; exact .inl ⟨rfl, rfl⟩
      | cons z pre =>
        obtain ⟨-, h⟩ := List.cons_eq_cons.1 h
        exact .inr ⟨pre, post, h⟩
  | case2 line hline =>
    refine iff_of_false List.not_mem_nil ?_
    rintro ⟨pre, post, rfl⟩
    rcases pre with - | ⟨x, - | ⟨y, pre⟩⟩
    · exact hline a b post rfl
    · exact hline x a (b :: post) rfl
    · exact hline x y (pre ++ a :: b :: post) rfl

/-- In a line that names a sensor once, no two are neighbours both ways. -/
theorem neighbours_oneWay {ls pre post pre' post' : List (Fin Config.sensors)} (hn : ls.Nodup)
    (h : ls = pre ++ a :: b :: post) (h' : ls = pre' ++ b :: a :: post') : False := by
  have ha : ls[pre.length]? = some a := by rw [h]; simp
  have hb : ls[pre.length + 1]? = some b := by rw [h]; simp
  have hb' : ls[pre'.length]? = some b := by rw [h']; simp
  have ha' : ls[pre'.length + 1]? = some a := by rw [h']; simp
  have la := (List.getElem?_eq_some_iff.1 ha).1
  have lb := (List.getElem?_eq_some_iff.1 hb).1
  have h1 := (List.getElem?_inj la hn).1 (ha.trans ha'.symm)
  have h2 := (List.getElem?_inj lb hn).1 (hb.trans hb'.symm)
  omega

/-- The pair two sensors form is a pair of the line. -/
theorem pairOf_eq_some_iff {p : Fin Config.sensors × Fin Config.sensors} :
    pairOf c d s = some p ↔ p ∈ neighbourPairs (sensorLine s) ∧ (p = (c, d) ∨ p = (d, c)) := by
  constructor
  · intro h
    refine ⟨List.mem_of_find?_eq_some h, ?_⟩
    simpa using List.find?_some h
  · rintro ⟨hp, hcd⟩
    obtain ⟨q, hq⟩ : ∃ q, pairOf c d s = some q :=
      Option.isSome_iff_exists.1 (List.find?_isSome.2 ⟨p, hp, by simpa using hcd⟩)
    rw [hq]
    have hqm : q ∈ neighbourPairs (sensorLine s) := List.mem_of_find?_eq_some hq
    have hqcd : q = (c, d) ∨ q = (d, c) := by simpa using List.find?_some hq
    have oneWay : (c, d) ∈ neighbourPairs (sensorLine s) → (d, c) ∉ neighbourPairs (sensorLine s) := fun h1 h2 => by
      obtain ⟨pre, post, h⟩ := mem_neighbourPairs.1 h1
      obtain ⟨pre', post', h'⟩ := mem_neighbourPairs.1 h2
      exact neighbours_oneWay (nodup_sensorLine s) h h'
    rcases hcd with rfl | rfl <;> rcases hqcd with rfl | rfl
    · rfl
    · exact absurd hqm (oneWay hp)
    · exact absurd hp (oneWay hqm)
    · rfl

/-- A hit pairs with an entry of a neighbour within their window. -/
theorem pairsWith_iff {h e : Hit} : pairsWith s h e = true ↔ ∃ a b, (a, b) ∈ neighbourPairs (sensorLine s) ∧
    ((a = e.sensor ∧ b = h.sensor) ∨ (a = h.sensor ∧ b = e.sensor)) ∧
    (h.time - e.time).toInt.natAbs ≤ pairWindow s (a, b) := by
  have found : pairsWith s h e = true ↔
      ∃ p, pairOf e.sensor h.sensor s = some p ∧ (timeDiff h.time e.time).natAbs ≤ pairWindow s p := by
    unfold pairsWith
    split
    · next p hp => simp [hp]
    · next hp => simp [hp]
  rw [found]
  simp only [pairOf_eq_some_iff, Prod.exists, Prod.mk.injEq, and_assoc, timeDiff]

/-! ### The largest window -/

/-- The greatest of a list of numbers, or where it starts. -/
theorem foldl_max_spec (xs : List Nat) (m : Nat) : (m ≤ xs.foldl max m ∧ ∀ x ∈ xs, x ≤ xs.foldl max m) ∧
    (xs.foldl max m = m ∨ xs.foldl max m ∈ xs) := by
  induction xs generalizing m with
  | nil => simp
  | cons x xs ih =>
    obtain ⟨⟨hm, hall⟩, heq⟩ := ih (max m x)
    rw [List.foldl_cons]
    refine ⟨⟨(le_max_left _ _).trans hm, fun y hy => ?_⟩, ?_⟩
    · rcases List.mem_cons.1 hy with rfl | hy
      · exact (le_max_right _ _).trans hm
      · exact hall y hy
    · rcases heq with heq | heq
      · rcases le_total m x with h | h
        · exact .inr (by rw [heq, max_eq_right h]; exact List.mem_cons_self)
        · exact .inl (by rw [heq, max_eq_left h])
      · exact .inr (List.mem_cons_of_mem _ heq)

theorem pairWindow_le_largestWindow {p : Fin Config.sensors × Fin Config.sensors}
    (h : p ∈ neighbourPairs (sensorLine s)) : pairWindow s p ≤ largestWindow s :=
  (foldl_max_spec _ 0).1.2 _ (List.mem_map_of_mem h)

theorem largestWindow_eq (s : State) :
    largestWindow s = 0 ∨ ∃ p ∈ neighbourPairs (sensorLine s), largestWindow s = pairWindow s p := by
  rcases (foldl_max_spec ((neighbourPairs (sensorLine s)).map (pairWindow s)) 0).2 with h | h
  · exact .inl h
  · obtain ⟨p, hp, e⟩ := List.mem_map.1 h
    exact .inr ⟨p, hp, e.symm⟩

end Sys2Proof.Machine
end

section
/-! Hits (R135 to R141, R153). -/
namespace Sys2Proof.Machine

variable {s : State} {unit : List Byte} {raw : RawHit} {c : Fin Config.sensors} {i : Fin Config.cracks} {x : Nat}

/-! ### The hit at the list -/

theorem u32_eq (b0 b1 b2 b3 : Byte) :
    u32 b0 b1 b2 b3 = b0.toNat + 256 * b1.toNat + 65536 * b2.toNat + 16777216 * b3.toNat := by
  simp only [u32, u16]
  omega


theorem acceptedHit_bad (h : parseHit unit = none) : acceptedHit unit s = none := by
  simp only [acceptedHit, h]

theorem acceptedHit_noSensor (h : parseHit unit = some raw) (hs : 16 ≤ raw.sensor) : acceptedHit unit s = none := by
  have : Table.index? Config.sensors raw.sensor = none := Table.index?_ge hs
  simp only [acceptedHit, h, this]

/-- A hit of a sensor's. -/
theorem acceptedHit_sensor (h : parseHit unit = some raw) (hs : raw.sensor = c.val) : acceptedHit unit s =
    if (sensor c s).enabled = true ∧ 30 ≤ raw.amplitude ∧ raw.amplitude ≤ 100 then
      some { sensor := c, time := raw.time, amplitude := raw.amplitude }
    else none := by
  have : Table.index? Config.sensors raw.sensor = some c := by rw [hs, Table.index?_val]
  simp only [acceptedHit, h, this]

theorem takeHit_discarded (h : acceptedHit unit s = none) : takeHit unit s = s := by
  simp only [takeHit, h]

theorem takeHit_accepted {h : Hit} (ha : acceptedHit unit s = some h) : takeHit unit s =
    if isDuplicate h (prune (largestWindow s) h.time s.cwu.hits) then
      setHits (prune (largestWindow s) h.time s.cwu.hits) s
    else pairHit h (prune (largestWindow s) h.time s.cwu.hits) s := by
  simp only [takeHit, ha]

theorem isDuplicate_iff {h : Hit} {hits : List Hit} :
    isDuplicate h hits = true ↔ ∃ e ∈ hits, e.sensor = h.sensor ∧ e.time = h.time := by
  simp [isDuplicate]

theorem pairHit_appended {h : Hit} {hits : List Hit} (hn : ∀ e ∈ hits, pairsWith s h e = false) :
    pairHit h hits s = setHits (appendHit h hits) s := by
  have : hits.find? (pairsWith s h) = none := List.find?_eq_none.2 fun e he => by simp [hn e he]
  simp only [pairHit, this]

theorem pairHit_paired {h e : Hit} {hits pre post : List Hit} (hh : hits = pre ++ e :: post)
    (hn : ∀ d ∈ pre, pairsWith s h d = false) (he : pairsWith s h e = true) : pairHit h hits s =
      takeLocated (locatedStation s h e) (max h.amplitude e.amplitude) (setHits (hits.erase e) s) := by
  have : hits.find? (pairsWith s h) = some e :=
    List.find?_eq_some_iff_append.2 ⟨he, pre, post, hh, fun d hd => by simp [hn d hd]⟩
  simp only [pairHit, this]

/-! ### The station of a located hit (R139) -/

/-- Lower and higher sensor by station, the difference of the times read from the lower. -/
theorem locatedStation_eq (s : State) (h e : Hit) :
    let xe := (sensor e.sensor s).station
    let xh := (sensor h.sensor s).station
    let late : Int := if xe ≤ xh then (e.time - h.time).toInt else (h.time - e.time).toInt
    let mid : Int := ((min xe xh + max xe xh) / 2 : Nat) + (s.cwu.waveSpeed * late).tdiv 512
    locatedStation s h e = (max ((min xe xh : Nat) : Int) (min ((max xe xh : Nat) : Int) mid)).toNat := by
  intro xe xh late mid
  by_cases hl : xe ≤ xh
  · have hmin : min xe xh = xe := min_eq_left hl
    have hmax : max xe xh = xh := max_eq_right hl
    simp only [mid, late, if_pos hl, hmin, hmax]
    have hl' : (sensor e.sensor s).station ≤ (sensor h.sensor s).station := hl
    simp only [locatedStation, if_pos hl']
    rfl
  · have hle : xh ≤ xe := (Nat.not_le.1 hl).le
    have hmin : min xe xh = xh := min_eq_right hle
    have hmax : max xe xh = xe := max_eq_left hle
    simp only [mid, late, if_neg hl, hmin, hmax]
    have hl' : ¬ (sensor e.sensor s).station ≤ (sensor h.sensor s).station := hl
    simp only [locatedStation, if_neg hl']
    rfl

/-! ### Acoustic evidence (R140, R141, R153) -/

/-- The state with the activity tallies `ts`. -/
def setTallies (ts : Table Tally Config.zones) (s : State) : State := onCwu (fun w => { w with tallies := ts }) s

/-- An event that raises nothing and touches no zone. -/
theorem finish_quiet (t : State) : (CrackEvent.mk t [] [] []).finish = t := by
  simp [CrackEvent.finish, sendAll]

/-- One more located hit in a tally. -/
theorem tally_add_eq (x : Nat) (t : Tally) : t.add x = if 65535 ≤ t.count then t else
    { count := t.count + 1, sum := t.sum + x, min := some (t.min.elim x (Nat.min x)),
      max := some (t.max.elim x (Nat.max x)) } := by
  obtain ⟨count, sum, least, greatest⟩ := t
  by_cases h : 65535 ≤ count
  · rw [if_pos h]
    exact if_pos h
  · rw [if_neg h]
    refine (if_neg h).trans ?_
    cases least <;> cases greatest <;> simp only [Option.elim, Nat.min_comm, Nat.max_comm]

theorem takeLocated_quiet {amplitude : Nat} (h : amplitude < s.cwu.sigAmp) : takeLocated x amplitude s = s := if_pos h

theorem takeLocated_loud {amplitude : Nat} (h : s.cwu.sigAmp ≤ amplitude) : takeLocated x amplitude s =
    (acousticEvidence x (decodeStation x s) (crackEvent s)).finish := if_neg (Nat.not_lt.2 h)

theorem acousticEvidence_tallied {z : Nat} (h : joinedRecord false x s = none) :
    (acousticEvidence x z (crackEvent s)).finish = tallyHit z x s := by
  have h' : joinedRecord false x (crackEvent s).state = none := h
  simp only [acousticEvidence, h']
  exact finish_quiet _

/-- A crack record with a located hit joined. -/
def Crack.heard (r : Crack) (x : Nat) : Crack := { r.widen x with hits := min 65535 (r.hits + 1) }

section
variable {z : Nat} (h : joinedRecord false x s = some i)
include h

/-- The event of acoustic evidence that joins a record, before its confirmation or growth test. -/
theorem acousticEvidence_joins : acousticEvidence x z (crackEvent s) = joinAcoustic i x (crackEvent s) := by
  have h' : joinedRecord false x (crackEvent s).state = some i := h
  simp only [acousticEvidence, h']

theorem acousticEvidence_suspect (hst : (crack i s).state = .suspect) :
    acousticEvidence x z (crackEvent s) = crackEvent (crackPut i ((crack i s).heard x) s) := by
  have hst' : (crack i (crackEvent s).state).state = .suspect := hst
  rw [acousticEvidence_joins h]
  simp only [joinAcoustic, hst']
  rfl

theorem acousticEvidence_confirmed (hst : (crack i s).state = .confirmed) :
    acousticEvidence x z (crackEvent s) = growthTest i (crackEvent (crackPut i ((crack i s).heard x) s)) := by
  have hst' : (crack i (crackEvent s).state).state = .confirmed := hst
  rw [acousticEvidence_joins h]
  simp only [joinAcoustic, hst']
  rfl

theorem acousticEvidence_arrested (hst : (crack i s).state = .arrested) :
    acousticEvidence x z (crackEvent s) = confirmRecord i (crackEvent (crackPut i ((crack i s).heard x) s)) := by
  have hst' : (crack i (crackEvent s).state).state = .arrested := hst
  rw [acousticEvidence_joins h]
  simp only [joinAcoustic, hst']
  rfl

end

/-- Settles O57: the unit's bytes, the line's neighbours, and one outcome of the hit per case. -/
theorem hitArrival : Obligations.HitArrival := by
  refine ⟨fun unit raw => ?bytes, fun s => ?line, fun unit s hs => ?hits⟩
  case bytes =>
    simp only [parseHit_eq_some_iff, u32_eq]
  case line =>
    intro line neighbours window
    have next : ∀ a b, neighbours a b ↔ (a, b) ∈ neighbourPairs (sensorLine s) := fun a b => mem_neighbourPairs.symm
    refine ⟨sensorLine_sorted s, nodup_sensorLine s, fun c => mem_sensorLine,
      fun a b h => pairWindow_le_largestWindow (p := (a, b)) ((next a b).1 h), ?_, fun h e => ?_⟩
    · refine (largestWindow_eq s).imp_right ?_
      rintro ⟨⟨a, b⟩, hp, h⟩
      exact ⟨a, b, (next a b).2 hp, h⟩
    · simp only [next]
      exact pairsWith_iff
  case hits =>
    intro withHits
    have taken : exec (.hit unit) s = .next (takeHit unit s) := congrArg Host.Outcome.next (unlessHeld_free _ hs)
    rw [taken]
    refine ⟨fun h => congrArg _ (takeHit_discarded (acceptedHit_bad h)),
      fun raw h hr => congrArg _ (takeHit_discarded (acceptedHit_noSensor h hr)), fun raw c hp hc => ?_⟩
    intro ok h kept twin
    have htwin : isDuplicate h kept = true ↔ twin := isDuplicate_iff
    have accepted : ok → takeHit unit s = if isDuplicate h kept then setHits kept s else pairHit h kept s := fun hok =>
      takeHit_accepted ((acceptedHit_sensor hp hc).trans (if_pos hok))
    refine ⟨fun hn => congrArg _ (takeHit_discarded ((acceptedHit_sensor hp hc).trans (if_neg hn))),
      fun hok ht => ?twin, fun hok ht hn => ?appended, fun hok ht pre e post hk hn he => ?paired⟩
    case twin => rw [accepted hok, if_pos (htwin.2 ht)]; rfl
    case appended => rw [accepted hok, if_neg (mt htwin.1 ht), pairHit_appended hn]; rfl
    case paired =>
      intro left eLow xa xb late mid x z t counted loud
      have located : takeHit unit s = takeLocated x (max raw.amplitude e.amplitude) left := by
        rw [accepted hok, if_neg (mt htwin.1 ht), pairHit_paired hk hn he, locatedStation_eq]
        rfl
      rw [located]
      refine ⟨fun hl => ?quiet, fun hl hj => ?tallied, fun hl i hi => ?joined⟩
      case quiet => rw [takeLocated_quiet (s := left) (Nat.not_le.1 hl)]
      case tallied =>
        rw [takeLocated_loud (s := left) hl, acousticEvidence_tallied (s := left) hj]
        exact congrArg (fun ta => Host.Outcome.next (setTallies ta left))
          (congrArg (s.cwu.tallies.setD z) (tally_add_eq x t))
      case joined =>
        intro c wide grown
        rw [takeLocated_loud (s := left) hl]
        have hg : (crack i (crackEvent (crackPut i ((crack i left).heard x) left)).state).growthDue
            (crackEvent (crackPut i ((crack i left).heard x) left)).state.cwu.growthLimit = true ↔ grown := by
          rw [crackEvent_state, crack_crackPut]
          exact growthDue_iff
        refine ⟨fun hst => ?still, fun hst hgr => ?grown, fun hst => ?again⟩
        case still =>
          rcases hst with hst | ⟨hst, hgr⟩
          · rw [acousticEvidence_suspect (s := left) hi hst]
            exact congrArg _ (finish_quiet _)
          · rw [acousticEvidence_confirmed (s := left) hi hst, growthTest_within (mt hg.1 hgr)]
            exact congrArg _ (finish_quiet _)
        case grown =>
          rw [acousticEvidence_confirmed (s := left) hi hst, growthTest_grown (hg.2 hgr), finish_eq]
          simp only [crackEvent_state, crack_crackPut, crackPut_crackPut]
          rfl
        case again =>
          rw [acousticEvidence_arrested (s := left) hi hst, confirmRecord_eq rfl, finish_eq]
          simp only [crackEvent_state, crack_crackPut, crackPut_crackPut]
          rfl

end Sys2Proof.Machine
end

section
/-! The interval close at CWU (R157 to R159). -/
namespace Sys2Proof.Machine

/-! ### Folds, one part at a time -/

section
variable {σ α β : Type} {f : σ → α → σ} {R : List α → σ → Prop} {xs : List α} {e : σ}
  (kept : ∀ a xs e, R (a :: xs) e → R xs (f e a))
include kept

/-- An invariant of what a fold has still to do holds at its end. -/
theorem foldl_kept (h : R xs e) : R [] (xs.foldl f e) := by
  induction xs generalizing e with
  | nil => exact h
  | cons a xs ih => exact ih (kept a xs e h)

/-- A part that each step changes by what it held is the fold of those changes. -/
theorem foldl_part {part : σ → β} {g : β → α → β} (h : R xs e)
    (hg : ∀ a xs e, R (a :: xs) e → part (f e a) = g (part e) a) : part (xs.foldl f e) = xs.foldl g (part e) := by
  induction xs generalizing e with
  | nil => rfl
  | cons a xs ih =>
    rw [List.foldl_cons, List.foldl_cons, ← hg a xs e h]
    exact ih (kept a xs e h)

end

section
variable {α β : Type} {xs : List α} {b : β} {p : α → Prop} [DecidablePred p]

/-- What no member sets stays. -/
theorem foldl_if_none {g : β → α → β} (h : ∀ x ∈ xs, ¬ p x) : xs.foldl (fun b x => if p x then g b x else b) b = b := by
  induction xs with
  | nil => rfl
  | cons x xs ih =>
    rw [List.foldl_cons, if_neg (h x List.mem_cons_self)]
    exact ih fun y hy => h y (List.mem_cons_of_mem _ hy)

/-- What one member sets has its value. -/
theorem foldl_if_one {κ : Type} [DecidableEq κ] {key : α → κ} {g : β → α → β} {x : α} (hn : (xs.map key).Nodup)
    (hx : x ∈ xs) : xs.foldl (fun b y => if key y = key x then g b y else b) b = g b x := by
  induction xs generalizing b with
  | nil => exact absurd hx List.not_mem_nil
  | cons y ys ih =>
    obtain ⟨hy, hys⟩ := List.nodup_cons.1 hn
    rw [List.foldl_cons]
    rcases List.mem_cons.1 hx with rfl | hx
    · rw [if_pos rfl]
      exact foldl_if_none fun z hz e => hy (e ▸ List.mem_map_of_mem hz)
    · have hne : key y ≠ key x := fun e => hy (e ▸ List.mem_map_of_mem hx)
      rw [if_neg hne]
      exact ih hys hx

/-- What a second time does not change is done where some member asks for it. -/
theorem foldl_if_some {u : β → β} (hu : ∀ b, u (u b) = u b) (h : ∃ x ∈ xs, p x) :
    xs.foldl (fun b x => if p x then u b else b) b = u b := by
  induction xs generalizing b with
  | nil => simp at h
  | cons x xs ih =>
    rw [List.foldl_cons]
    by_cases hx : p x
    · rw [if_pos hx]
      by_cases hxs : ∃ x ∈ xs, p x
      · exact (ih hxs).trans (hu b)
      · exact foldl_if_none fun y hy hp => hxs ⟨y, hy, hp⟩
    · rw [if_neg hx]
      exact ih ((List.exists_mem_cons_iff _ _ _).1 h |>.resolve_left hx)

/-- The values of the members that pass, each added once. -/
theorem foldl_if_addOnce [DecidableEq β] (v : α → β) {acc : List β} (hacc : acc.Nodup) :
    (xs.foldl (fun zs x => if p x then addOnce (v x) zs else zs) acc).Nodup ∧
      ∀ z, z ∈ xs.foldl (fun zs x => if p x then addOnce (v x) zs else zs) acc ↔ z ∈ acc ∨ ∃ x ∈ xs, p x ∧ v x = z := by
  have passing : xs.foldl (fun zs x => if p x then addOnce (v x) zs else zs) acc =
      (xs.filter fun x => decide (p x)).foldl (fun zs x => addOnce (v x) zs) acc := by
    simp only [List.foldl_filter, decide_eq_true_eq]
  rw [passing]
  simpa [and_assoc] using foldl_addOnce v (xs.filter fun x => decide (p x)) acc hacc

end

end Sys2Proof.Machine
end

section
/-! Records settled at an interval close (R157, R158). -/
namespace Sys2Proof.Machine

variable {s t u : State} {e : CrackEvent} {i : Fin Config.cracks} {w : Cwu} {r : Crack}

/-! ### What a close leaves of a state but its crack and loop records -/

/-- Only crack and loop records differ. -/
def RecordsOnly (s t : State) : Prop :=
  t = { s with cwu := { s.cwu with cracks := t.cwu.cracks, loops := t.cwu.loops } }

theorem RecordsOnly.refl (s : State) : RecordsOnly s s := rfl

theorem RecordsOnly.trans (h : RecordsOnly s t) (h' : RecordsOnly t u) : RecordsOnly s u :=
  Eq.trans h' (congrArg (fun t : State =>
    { t with cwu := { t.cwu with cracks := u.cwu.cracks, loops := u.cwu.loops } }) h)

/-- What reads no crack and no loop record is the same. -/
theorem RecordsOnly.same {α : Type} (h : RecordsOnly s t) (f : State → α)
    (hf : ∀ cs ls, f { s with cwu := { s.cwu with cracks := cs, loops := ls } } = f s) : f t = f s :=
  (congrArg f (show t = _ from h)).trans (hf _ _)

theorem RecordsOnly.crackPassed (h : RecordsOnly s t) (n : Nat) : crackPassed t n = crackPassed s n :=
  h.same (fun t => Machine.crackPassed t n) fun _ _ => rfl

theorem RecordsOnly.decodeStation (h : RecordsOnly s t) (x : Nat) : decodeStation x t = decodeStation x s :=
  h.same (Machine.decodeStation x) fun _ _ => rfl

theorem RecordsOnly.confirmRun (h : RecordsOnly s t) : t.cwu.confirmRun = s.cwu.confirmRun :=
  h.same (fun t => t.cwu.confirmRun) fun _ _ => rfl

theorem RecordsOnly.lapseRun (h : RecordsOnly s t) : t.cwu.lapseRun = s.cwu.lapseRun :=
  h.same (fun t => t.cwu.lapseRun) fun _ _ => rfl

theorem RecordsOnly.confirmDerate (h : RecordsOnly s t) : t.cwu.confirmDerate = s.cwu.confirmDerate :=
  h.same (fun t => t.cwu.confirmDerate) fun _ _ => rfl

theorem RecordsOnly.threshold (h : RecordsOnly s t) : t.cwu.threshold = s.cwu.threshold :=
  h.same (fun t => t.cwu.threshold) fun _ _ => rfl

theorem RecordsOnly.passCount (h : RecordsOnly s t) : t.lsq.passCount = s.lsq.passCount :=
  h.same (fun t => t.lsq.passCount) fun _ _ => rfl

theorem recordsOnly_setCrack (r : Crack) : RecordsOnly s (setCrack i r s) := rfl

theorem recordsOnly_unbindLoops (ls : List (Fin Config.loops)) : RecordsOnly s (unbindLoops ls s) := by
  rw [unbindLoops_unbound]
  rfl

/-! ### One record -/

/-- A SUSPECT record whose active run reaches the setting. -/
@[reducible] def Crack.confirms (w : Cwu) (r : Crack) : Prop := r.state = .suspect ∧ w.confirmRun ≤ r.activeRun

/-- A SUSPECT record that is not confirmed and whose quiet run reaches the setting. -/
@[reducible] def Crack.lapses (w : Cwu) (r : Crack) : Prop :=
  r.state = .suspect ∧ r.activeRun < w.confirmRun ∧ w.lapseRun ≤ r.quietRun

/-- The record once settled. -/
def Crack.settled (w : Cwu) (r : Crack) : Crack :=
  if r.confirms w then r.confirmed w.confirmDerate else if r.lapses w then {} else r

theorem Crack.settled_confirms (h : r.confirms w) : r.settled w = r.confirmed w.confirmDerate := if_pos h

theorem Crack.not_confirms (h : r.lapses w) : ¬ r.confirms w := fun hc => Nat.not_lt.2 hc.2 h.2.1

theorem Crack.settled_lapses (h : r.lapses w) : r.settled w = {} := (if_neg (not_confirms h)).trans (if_pos h)

theorem Crack.settled_kept (hc : ¬ r.confirms w) (hl : ¬ r.lapses w) : r.settled w = r :=
  (if_neg hc).trans (if_neg hl)

theorem settleSuspect_confirms (h : (crack i e.state).confirms e.state.cwu) : settleSuspect e i = confirmRecord i e :=
  (if_neg (not_not.2 h.1)).trans (if_pos h.2)

theorem settleSuspect_lapses (h : (crack i e.state).lapses e.state.cwu) : settleSuspect e i = vacateRecord i e :=
  (if_neg (not_not.2 h.1)).trans ((if_neg (Nat.not_le.2 h.2.1)).trans (if_pos h.2.2))

theorem settleSuspect_kept (hc : ¬ (crack i e.state).confirms e.state.cwu) (hl : ¬ (crack i e.state).lapses e.state.cwu) :
    settleSuspect e i = e := by
  by_cases hs : (crack i e.state).state = .suspect
  · have hrun : (crack i e.state).activeRun < e.state.cwu.confirmRun := Nat.not_le.1 fun h => hc ⟨hs, h⟩
    exact (if_neg (not_not.2 hs)).trans ((if_neg (Nat.not_le.2 hrun)).trans (if_neg fun h => hl ⟨hs, hrun, h⟩))
  · exact if_pos hs

/-! ### The parts of the event a record's turn changes -/

theorem recordsOnly_settleSuspect (e : CrackEvent) (i : Fin Config.cracks) :
    RecordsOnly e.state (settleSuspect e i).state := by
  by_cases hc : (crack i e.state).confirms e.state.cwu
  · rw [settleSuspect_confirms hc, confirmRecord_state]
    exact recordsOnly_setCrack _
  · by_cases hl : (crack i e.state).lapses e.state.cwu
    · rw [settleSuspect_lapses hl, vacateRecord_state]
      exact (recordsOnly_unbindLoops _).trans (recordsOnly_setCrack _)
    · rw [settleSuspect_kept hc hl]
      exact .refl _

theorem crack_settleSuspect (e : CrackEvent) (i j : Fin Config.cracks) : crack j (settleSuspect e i).state =
    if i = j then (crack i e.state).settled e.state.cwu else crack j e.state := by
  by_cases hc : (crack i e.state).confirms e.state.cwu
  · rw [settleSuspect_confirms hc, Crack.settled_confirms hc, confirmRecord_state, crack_setCrack]
    simp only [eq_comm]
  · by_cases hl : (crack i e.state).lapses e.state.cwu
    · rw [settleSuspect_lapses hl, Crack.settled_lapses hl, vacateRecord_state, crack_setCrack, unbindLoops_unbound]
      simp only [eq_comm]
      rfl
    · rw [settleSuspect_kept hc hl, Crack.settled_kept hc hl]
      split
      · next h => rw [h]
      · rfl

theorem loop_settleSuspect (e : CrackEvent) (i : Fin Config.cracks) (l : Fin Config.loops) :
    loop l (settleSuspect e i).state =
      if (crack i e.state).lapses e.state.cwu ∧ l ∈ (crack i e.state).loops then { loop l e.state with bound := none }
      else loop l e.state := by
  by_cases hl : (crack i e.state).lapses e.state.cwu
  · rw [settleSuspect_lapses hl, vacateRecord_state, loop_setCrack, loop_unbindLoops]
    exact if_congr (and_iff_right hl).symm rfl rfl
  · rw [if_neg fun h => hl h.1]
    by_cases hc : (crack i e.state).confirms e.state.cwu
    · rw [settleSuspect_confirms hc, confirmRecord_state, loop_setCrack]
    · rw [settleSuspect_kept hc hl]

/-- Each confirmation or lapse touches the record's zone. -/
theorem zones_settleSuspect (e : CrackEvent) (i : Fin Config.cracks) : (settleSuspect e i).zones =
    if ((crack i e.state).confirms e.state.cwu ∨ (crack i e.state).lapses e.state.cwu) ∧ crackPassed e.state i.val = true
    then addOnce (crack i e.state).zone e.zones else e.zones := by
  by_cases hc : (crack i e.state).confirms e.state.cwu
  · rw [settleSuspect_confirms hc]
    refine (congrArg CrackEvent.zones (touch_eq _)).trans ?_
    exact if_congr (and_iff_right (.inl hc)).symm rfl rfl
  · by_cases hl : (crack i e.state).lapses e.state.cwu
    · rw [settleSuspect_lapses hl]
      refine (congrArg CrackEvent.zones (touch_eq _)).trans ?_
      have passed := ((recordsOnly_unbindLoops (s := e.state) (crack i e.state).loops).trans
        (recordsOnly_setCrack (i := i) {})).crackPassed i.val
      exact if_congr ((Bool.eq_iff_iff.1 passed).trans (and_iff_right (.inr hl)).symm) rfl rfl
    · rw [settleSuspect_kept hc hl, if_neg fun h => h.1.elim hc hl]

theorem classes_settleSuspect (e : CrackEvent) (i : Fin Config.cracks) : (settleSuspect e i).classes =
    if (crack i e.state).confirms e.state.cwu ∨ (crack i e.state).lapses e.state.cwu
    then addOnce .crackState e.classes else e.classes := by
  by_cases hc : (crack i e.state).confirms e.state.cwu
  · rw [settleSuspect_confirms hc, if_pos (.inl hc)]
    exact congrArg CrackEvent.classes (touch_eq _)
  · by_cases hl : (crack i e.state).lapses e.state.cwu
    · rw [settleSuspect_lapses hl, if_pos (.inr hl)]
      exact congrArg CrackEvent.classes (touch_eq _)
    · rw [settleSuspect_kept hc hl, if_neg fun h => h.elim hc hl]

theorem notices_settleSuspect (e : CrackEvent) (i : Fin Config.cracks) : (settleSuspect e i).notices = e.notices := by
  by_cases hc : (crack i e.state).confirms e.state.cwu
  · rw [settleSuspect_confirms hc]
    exact (congrArg CrackEvent.notices (touch_eq _)).trans rfl
  · by_cases hl : (crack i e.state).lapses e.state.cwu
    · rw [settleSuspect_lapses hl]
      exact (congrArg CrackEvent.notices (touch_eq _)).trans rfl
    · rw [settleSuspect_kept hc hl]

/-! ### All records -/

/-- To add a second time changes nothing. -/
theorem addOnce_idem {α : Type} [DecidableEq α] (x : α) (xs : List α) : addOnce x (addOnce x xs) = addOnce x xs := by
  have hx : x ∈ addOnce x xs := by
    unfold addOnce
    split
    · assumption
    · simp
  exact if_pos hx


/-- Every record has its turn, in the order of their numbers. -/
def settleAll (s : State) : CrackEvent := (indices Config.cracks).foldl settleSuspect (crackEvent s)

/-- While records wait for their turn, they stand as at the start. -/
def Unsettled (s : State) (xs : List (Fin Config.cracks)) (e : CrackEvent) : Prop :=
  xs.Nodup ∧ RecordsOnly s e.state ∧ ∀ i ∈ xs, crack i e.state = crack i s

theorem unsettled_start (s : State) : Unsettled s (indices Config.cracks) (crackEvent s) :=
  ⟨nodup_indices _, .refl s, fun _ _ => rfl⟩

theorem unsettled_settleSuspect (i : Fin Config.cracks) (xs : List (Fin Config.cracks)) (e : CrackEvent)
    (h : Unsettled s (i :: xs) e) : Unsettled s xs (settleSuspect e i) := by
  obtain ⟨hn, hb, hr⟩ := h
  obtain ⟨hi, hxs⟩ := List.nodup_cons.1 hn
  refine ⟨hxs, hb.trans (recordsOnly_settleSuspect e i), fun j hj => ?_⟩
  have hne : i ≠ j := fun h => hi (h ▸ hj)
  rw [crack_settleSuspect, if_neg hne]
  exact hr j (List.mem_cons_of_mem _ hj)

/-- What the record whose turn it is reads. -/
theorem Unsettled.head {xs : List (Fin Config.cracks)} (h : Unsettled s (i :: xs) e) : crack i e.state = crack i s :=
  h.2.2 i List.mem_cons_self

theorem Unsettled.recordsOnly {xs : List (Fin Config.cracks)} (h : Unsettled s xs e) : RecordsOnly s e.state := h.2.1

theorem RecordsOnly.confirms_iff (h : RecordsOnly s t) : r.confirms t.cwu ↔ r.confirms s.cwu := by
  simp only [Crack.confirms, h.confirmRun]

theorem RecordsOnly.lapses_iff (h : RecordsOnly s t) : r.lapses t.cwu ↔ r.lapses s.cwu := by
  simp only [Crack.lapses, h.confirmRun, h.lapseRun]

theorem RecordsOnly.settled_eq (h : RecordsOnly s t) : r.settled t.cwu = r.settled s.cwu := by
  simp only [Crack.settled, h.confirms_iff, h.lapses_iff, h.confirmDerate]

theorem recordsOnly_settleAll (s : State) : RecordsOnly s (settleAll s).state :=
  (foldl_kept unsettled_settleSuspect (unsettled_start s)).recordsOnly

theorem crack_settleAll (s : State) (j : Fin Config.cracks) :
    crack j (settleAll s).state = (crack j s).settled s.cwu := by
  have turn : ∀ (i : Fin Config.cracks) xs e, Unsettled s (i :: xs) e → crack j (settleSuspect e i).state =
      if i = j then (crack i s).settled s.cwu else crack j e.state := fun i xs e h => by
    rw [crack_settleSuspect, h.head, h.recordsOnly.settled_eq]
  refine (foldl_part unsettled_settleSuspect (part := fun e => crack j e.state)
    (g := fun r i => if i = j then (crack i s).settled s.cwu else r) (unsettled_start s) turn).trans ?_
  exact foldl_if_one (key := fun i => i) (g := fun _ i => (crack i s).settled s.cwu)
    (by simpa using nodup_indices Config.cracks) (mem_indices j)

theorem loop_settleAll (s : State) (l : Fin Config.loops) [Decidable (∃ i, (crack i s).lapses s.cwu ∧ l ∈ (crack i s).loops)] :
    loop l (settleAll s).state =
      if ∃ i, (crack i s).lapses s.cwu ∧ l ∈ (crack i s).loops then { loop l s with bound := none } else loop l s := by
  have turn : ∀ (i : Fin Config.cracks) xs e, Unsettled s (i :: xs) e → loop l (settleSuspect e i).state =
      if (crack i s).lapses s.cwu ∧ l ∈ (crack i s).loops then { loop l e.state with bound := none }
      else loop l e.state := fun i xs e h => by
    rw [loop_settleSuspect]
    simp only [h.head, h.recordsOnly.lapses_iff]
  refine (foldl_part unsettled_settleSuspect (part := fun e => loop l e.state)
    (g := fun r i => if (crack i s).lapses s.cwu ∧ l ∈ (crack i s).loops then { r with bound := none } else r)
    (unsettled_start s) turn).trans ?_
  split
  · next h =>
    obtain ⟨i, hi⟩ := h
    exact foldl_if_some (u := fun r : Loop => { r with bound := none }) (fun _ => rfl) ⟨i, mem_indices i, hi⟩
  · next h => exact foldl_if_none (g := fun (r : Loop) _ => { r with bound := none }) fun i _ hi => h ⟨i, hi⟩

theorem zones_settleAll (s : State) : (settleAll s).zones.Nodup ∧ ∀ z, z ∈ (settleAll s).zones ↔
    ∃ i, ((crack i s).confirms s.cwu ∨ (crack i s).lapses s.cwu) ∧ crackPassed s i.val = true ∧ (crack i s).zone = z := by
  have turn : ∀ (i : Fin Config.cracks) xs e, Unsettled s (i :: xs) e → (settleSuspect e i).zones =
      if ((crack i s).confirms s.cwu ∨ (crack i s).lapses s.cwu) ∧ crackPassed s i.val = true
      then addOnce (crack i s).zone e.zones else e.zones := fun i xs e h => by
    rw [zones_settleSuspect]
    simp only [h.head, h.recordsOnly.confirms_iff, h.recordsOnly.lapses_iff, h.recordsOnly.crackPassed]
  have folded := foldl_part unsettled_settleSuspect (part := CrackEvent.zones)
    (g := fun zs i => if ((crack i s).confirms s.cwu ∨ (crack i s).lapses s.cwu) ∧ crackPassed s i.val = true
      then addOnce (crack i s).zone zs else zs) (unsettled_start s) turn
  obtain ⟨hn, hm⟩ := foldl_if_addOnce (xs := indices Config.cracks)
    (p := fun i => ((crack i s).confirms s.cwu ∨ (crack i s).lapses s.cwu) ∧ crackPassed s i.val = true)
    (fun i => (crack i s).zone) List.nodup_nil
  rw [settleAll, folded]
  refine ⟨hn, fun z => (hm z).trans ?_⟩
  simp [mem_indices, and_assoc]

theorem classes_settleAll (s : State) [Decidable (∃ i, (crack i s).confirms s.cwu ∨ (crack i s).lapses s.cwu)] :
    (settleAll s).classes =
      if ∃ i, (crack i s).confirms s.cwu ∨ (crack i s).lapses s.cwu then [.crackState] else [] := by
  have turn : ∀ (i : Fin Config.cracks) xs e, Unsettled s (i :: xs) e → (settleSuspect e i).classes =
      if (crack i s).confirms s.cwu ∨ (crack i s).lapses s.cwu then addOnce .crackState e.classes else e.classes :=
    fun i xs e h => by
      rw [classes_settleSuspect]
      simp only [h.head, h.recordsOnly.confirms_iff, h.recordsOnly.lapses_iff]
  refine (foldl_part unsettled_settleSuspect (part := CrackEvent.classes)
    (g := fun cs i => if (crack i s).confirms s.cwu ∨ (crack i s).lapses s.cwu then addOnce .crackState cs else cs)
    (unsettled_start s) turn).trans ?_
  split
  · next h =>
    obtain ⟨i, hi⟩ := h
    exact foldl_if_some (addOnce_idem _) ⟨i, mem_indices i, hi⟩
  · next h => exact foldl_if_none (g := fun cs _ => addOnce EventClass.crackState cs) fun i _ hi => h ⟨i, hi⟩

theorem notices_settleAll (s : State) : (settleAll s).notices = [] :=
  (foldl_part unsettled_settleSuspect (g := fun ns _ => ns) (unsettled_start s)
    fun i _ e _ => notices_settleSuspect e i).trans (List.foldl_fixed _)

end Sys2Proof.Machine
end

section
/-! Records opened at an interval close (R156, R159). -/
namespace Sys2Proof.Machine

variable {s t : State} {e : CrackEvent} {i j : Fin Config.cracks} {tally : Tally}
  {T : Table Tally Config.zones}

/-! ### One tally -/

/-- The VACANT ids, lowest first. -/
def freeIds (s : State) : List (Fin Config.cracks) :=
  (List.finRange Config.cracks).filter fun i => (crack i s).state == .vacant

/-- The zones with a tally at or above the threshold. -/
def fullZones (n : Nat) (T : Table Tally Config.zones) : List (Fin Config.zones) :=
  (List.finRange Config.zones).filter fun z => decide (n ≤ (T.get z).count)

/-- The mean station of a tally. -/
def Tally.mean (t : Tally) : Nat := t.sum / t.count

/-- A tally opens record `x.1`. -/
def openTally (T : Table Tally Config.zones) (e : CrackEvent) (x : Fin Config.cracks × Fin Config.zones) : CrackEvent :=
  openRecord x.1 .ae (T.get x.2).mean ((T.get x.2).min.getD 0) ((T.get x.2).max.getD 0) .suspect 100 0 e

/-- The record a tally opens. -/
def Tally.opened (t : Tally) (s : State) : Crack :=
  Crack.fresh .suspect .ae t.mean (t.min.getD 0) (t.max.getD 0) 0 100 s

theorem vacantId_eq_head (s : State) : vacantId s = (freeIds s).head? := by
  rw [freeIds, List.head?_filter, vacantId, indices_eq_finRange]

theorem openFromTally_low (h : tally.count < e.state.cwu.threshold) : openFromTally e tally = e := if_pos h

theorem openFromTally_free {z : Fin Config.zones} (h : e.state.cwu.threshold ≤ (T.get z).count)
    (hv : vacantId e.state = some i) : openFromTally e (T.get z) = openTally T e (i, z) := by
  refine (if_neg (Nat.not_lt.2 h)).trans ?_
  simp only [hv]
  rfl

theorem openFromTally_tableFull (h : e.state.cwu.threshold ≤ tally.count) (hv : vacantId e.state = none) :
    openFromTally e tally = e.raise .crackTableFull := by
  refine (if_neg (Nat.not_lt.2 h)).trans ?_
  simp only [hv]

/-! ### The parts of the event an opening changes -/

variable {x : Fin Config.cracks × Fin Config.zones}

theorem state_openTally : (openTally T e x).state = setCrack x.1 ((T.get x.2).opened e.state) e.state :=
  congrArg CrackEvent.state (touch_eq _)

theorem recordsOnly_openTally : RecordsOnly e.state (openTally T e x).state := by
  rw [state_openTally]
  exact recordsOnly_setCrack _

theorem zones_openTally : (openTally T e x).zones =
    if crackPassed e.state x.1.val = true then addOnce (decodeStation (T.get x.2).mean e.state) e.zones
    else e.zones := (congrArg CrackEvent.zones (touch_eq _)).trans rfl

theorem classes_openTally : (openTally T e x).classes = addOnce .crackOpened e.classes :=
  (congrArg CrackEvent.classes (touch_eq _)).trans rfl

theorem notices_openTally : (openTally T e x).notices = e.notices :=
  (congrArg CrackEvent.notices (touch_eq _)).trans rfl

theorem RecordsOnly.opened_eq (h : RecordsOnly s t) : tally.opened t = tally.opened s := by
  simp only [Tally.opened, Crack.fresh, h.decodeStation, h.passCount]

/-- The lowest VACANT id opened, the others stay. -/
theorem freeIds_openTally {fs : List (Fin Config.cracks)} {z : Fin Config.zones} (h : freeIds e.state = i :: fs) :
    freeIds (openTally T e (i, z)).state = fs := by
  have hn : (i :: fs).Nodup := h ▸ (List.nodup_finRange _).filter _
  have others : ∀ j, ((crack j (openTally T e (i, z)).state).state == .vacant) =
      (decide (j ≠ i) && ((crack j e.state).state == .vacant)) := fun j => by
    rw [state_openTally, crack_setCrack]
    by_cases hj : j = i
    · simp [hj, Tally.opened, Crack.fresh]
    · simp [hj]
  rw [freeIds]
  simp only [others]
  rw [← List.filter_filter]
  refine (congrArg (List.filter fun j => decide (j ≠ i)) h).trans ?_
  obtain ⟨hi, -⟩ := List.nodup_cons.1 hn
  rw [List.filter_cons_of_neg (by simp), List.filter_eq_self]
  exact fun j hj => decide_eq_true fun hji => hi (hji ▸ hj)

/-! ### All tallies -/

theorem raise_idem (e : CrackEvent) (c : EventClass) : (e.raise c).raise c = e.raise c :=
  congrArg (fun cs => { e with classes := cs }) (addOnce_idem c e.classes)

section
variable {xs : List (Fin Config.cracks × Fin Config.zones)}

/-- While records are opened, only records have changed. -/
def Opening (s : State) (_ : List (Fin Config.cracks × Fin Config.zones)) (e : CrackEvent) : Prop := RecordsOnly s e.state

theorem opening_openTally (x : Fin Config.cracks × Fin Config.zones) (xs : List (Fin Config.cracks × Fin Config.zones))
    (e : CrackEvent) (h : Opening s (x :: xs) e) : Opening s xs (openTally T e x) :=
  RecordsOnly.trans h recordsOnly_openTally

theorem recordsOnly_foldl_openTally (h : RecordsOnly s e.state) : RecordsOnly s (xs.foldl (openTally T) e).state :=
  foldl_kept (R := Opening s) opening_openTally h

theorem loop_foldl_openTally (h : RecordsOnly s e.state) (l : Fin Config.loops) :
    loop l (xs.foldl (openTally T) e).state = loop l e.state :=
  (foldl_part (R := Opening s) (part := fun e => loop l e.state) (g := fun r _ => r)
    opening_openTally h fun x _ e _ => by rw [state_openTally, loop_setCrack]).trans
    (List.foldl_fixed _)

/-- The fold seen from record `j`. -/
theorem crack_foldl_openTally (h : RecordsOnly s e.state) (j : Fin Config.cracks) :
    crack j (xs.foldl (openTally T) e).state =
      xs.foldl (fun r x => if x.1 = j then (T.get x.2).opened s else r) (crack j e.state) :=
  foldl_part (R := Opening s) (part := fun e => crack j e.state)
    opening_openTally h fun x _ e h => by
      rw [state_openTally, crack_setCrack, RecordsOnly.opened_eq h]
      simp only [eq_comm]

theorem crack_foldl_openTally_other (h : RecordsOnly s e.state) (hj : ∀ x ∈ xs, x.1 ≠ j) :
    crack j (xs.foldl (openTally T) e).state = crack j e.state :=
  (crack_foldl_openTally h j).trans (foldl_if_none (g := fun _ x => (T.get x.2).opened s) hj)

theorem crack_foldl_openTally_opened (h : RecordsOnly s e.state) (hn : (xs.map Prod.fst).Nodup) (hx : x ∈ xs) :
    crack x.1 (xs.foldl (openTally T) e).state = (T.get x.2).opened s :=
  (crack_foldl_openTally h x.1).trans (foldl_if_one (key := Prod.fst) (g := fun _ x => (T.get x.2).opened s) hn hx)

theorem zones_foldl_openTally (h : RecordsOnly s e.state) (hz : e.zones.Nodup) :
    (xs.foldl (openTally T) e).zones.Nodup ∧ ∀ z, z ∈ (xs.foldl (openTally T) e).zones ↔
      z ∈ e.zones ∨ ∃ x ∈ xs, crackPassed s x.1.val = true ∧ decodeStation (T.get x.2).mean s = z := by
  have folded := foldl_part (xs := xs) (R := Opening s) (part := CrackEvent.zones)
    (g := fun zs x => if crackPassed s x.1.val = true then addOnce (decodeStation (T.get x.2).mean s) zs else zs)
    opening_openTally h fun x _ e h => by
      rw [zones_openTally, RecordsOnly.crackPassed h, RecordsOnly.decodeStation h]
  rw [folded]
  exact foldl_if_addOnce (fun x : Fin Config.cracks × Fin Config.zones => decodeStation (T.get x.2).mean s) hz

theorem classes_foldl_openTally (xs : List (Fin Config.cracks × Fin Config.zones)) (e : CrackEvent) :
    (xs.foldl (openTally T) e).classes = if xs = [] then e.classes else addOnce .crackOpened e.classes := by
  have folded := foldl_part (f := openTally T) (xs := xs) (R := Opening e.state) (part := CrackEvent.classes) (e := e)
    (g := fun cs _ => if True then addOnce .crackOpened cs else cs) opening_openTally (.refl e.state)
    fun _ _ _ _ => classes_openTally
  rw [folded]
  by_cases h : xs = []
  · rw [if_pos h, h, List.foldl_nil]
  · rw [if_neg h]
    exact foldl_if_some (addOnce_idem _) ((List.exists_mem_of_ne_nil xs h).imp fun x hx => ⟨hx, trivial⟩)

theorem notices_foldl_openTally (xs : List (Fin Config.cracks × Fin Config.zones)) (e : CrackEvent) :
    (xs.foldl (openTally T) e).notices = e.notices :=
  (foldl_part (R := Opening e.state) (part := CrackEvent.notices) (g := fun ns _ => ns) opening_openTally (.refl e.state)
    fun _ _ _ _ => notices_openTally).trans (List.foldl_fixed _)

end

/-- The tallies in the order of their zones: the full ones take the VACANT ids in turn, then find the table full. -/
theorem foldl_openFromTally (zs : List (Fin Config.zones)) (fs : List (Fin Config.cracks)) (e : CrackEvent) {n : Nat}
    (hfs : freeIds e.state = fs) (hthr : e.state.cwu.threshold = n) :
    let full := zs.filter fun z => decide (n ≤ (T.get z).count)
    let filled := (fs.zip full).foldl (openTally T) e
    zs.foldl (fun e z => openFromTally e (T.get z)) e =
      if fs.length < full.length then filled.raise .crackTableFull else filled := by
  induction zs generalizing fs e with
  | nil => simp
  | cons z zs ih =>
    intro full filled
    rw [List.foldl_cons]
    by_cases hz : n ≤ (T.get z).count
    · have hfull : full = z :: zs.filter fun z => decide (n ≤ (T.get z).count) :=
        List.filter_cons_of_pos (by simpa using hz)
      cases fs with
      | nil =>
        have hv : vacantId e.state = none := by rw [vacantId_eq_head, hfs, List.head?_nil]
        rw [openFromTally_tableFull (hthr ▸ hz) hv, ih [] (e.raise .crackTableFull) hfs hthr]
        simp only [filled, hfull, List.zip_nil_left, List.foldl_nil, raise_idem, ite_self, List.length_nil,
          List.length_cons, Nat.zero_lt_succ, if_true]
      | cons i fs =>
        have hv : vacantId e.state = some i := by rw [vacantId_eq_head, hfs, List.head?_cons]
        rw [openFromTally_free (hthr ▸ hz) hv, ih fs (openTally T e (i, z)) (freeIds_openTally hfs)
          (recordsOnly_openTally.threshold.trans hthr)]
        simp only [filled, hfull, List.zip_cons_cons, List.foldl_cons, List.length_cons, Nat.add_lt_add_iff_right]
    · have hfull : full = zs.filter fun z => decide (n ≤ (T.get z).count) :=
        List.filter_cons_of_neg (by simpa using hz)
      rw [openFromTally_low (by omega), ih fs e hfs hthr]
      simp only [filled, hfull]

end Sys2Proof.Machine
end

section
/-! The interval close at CWU as a whole (R157 to R159). -/
namespace Sys2Proof.Machine

variable {s u : State} {i : Fin Config.cracks} {r : Crack}

/-! ### The evaluation (R157) -/

/-- Every record evaluated. -/
def evaluateAll (s : State) : State := onCwu (fun w => { w with cracks := w.cracks.map (Crack.evaluated w.threshold) }) s

theorem recordsOnly_evaluateAll (s : State) : RecordsOnly s (evaluateAll s) := rfl

@[simp] theorem crack_evaluateAll (i : Fin Config.cracks) :
    crack i (evaluateAll s) = (crack i s).evaluated s.cwu.threshold := Table.get_map _ _ i

@[simp] theorem Crack.evaluated_zone (n : Nat) : (r.evaluated n).zone = r.zone := by
  unfold evaluated
  (repeat' split) <;> rfl

@[simp] theorem Crack.evaluated_loops (n : Nat) : (r.evaluated n).loops = r.loops := by
  unfold evaluated
  (repeat' split) <;> rfl

/-! ### The event before its end -/

/-- The event once records are settled and opened. -/
def closeEvent (s : State) : CrackEvent := s.cwu.tallies.rows.foldl openFromTally (settleAll (evaluateAll s))

theorem takeCwuClose_eq (s : State) : takeCwuClose s = ((closeEvent s).map clearTallies).finish := rfl

/-- The ids free once the records are settled. -/
def closeFree (s : State) : List (Fin Config.cracks) := freeIds (settleAll (evaluateAll s)).state

/-- The zones whose tallies open a record or find the table full. -/
def closeFull (s : State) : List (Fin Config.zones) := fullZones s.cwu.threshold s.cwu.tallies

/-- The ids opened and the zones of the tallies that open them. -/
def closeOpened (s : State) : List (Fin Config.cracks × Fin Config.zones) := (closeFree s).zip (closeFull s)

/-- The event once the ids are opened. -/
def filledEvent (s : State) : CrackEvent :=
  (closeOpened s).foldl (openTally s.cwu.tallies) (settleAll (evaluateAll s))

theorem recordsOnly_settled (s : State) : RecordsOnly s (settleAll (evaluateAll s)).state :=
  (recordsOnly_evaluateAll s).trans (recordsOnly_settleAll _)

theorem rows_eq_map_get {α : Type} {n : Nat} (t : Table α n) : t.rows = (List.finRange n).map t.get :=
  List.ext_getElem (by simp [t.size]) fun k _ _ => by simp [Table.get]

theorem closeEvent_eq (s : State) : closeEvent s =
    if (closeFree s).length < (closeFull s).length then (filledEvent s).raise .crackTableFull else filledEvent s := by
  rw [closeEvent, rows_eq_map_get, List.foldl_map]
  exact foldl_openFromTally _ _ _ rfl (recordsOnly_settled s).threshold

section
variable (e : CrackEvent) (c : EventClass)

@[simp] theorem CrackEvent.raise_state : (e.raise c).state = e.state := rfl
@[simp] theorem CrackEvent.raise_zones : (e.raise c).zones = e.zones := rfl
@[simp] theorem CrackEvent.raise_notices : (e.raise c).notices = e.notices := rfl
@[simp] theorem CrackEvent.raise_classes : (e.raise c).classes = addOnce c e.classes := rfl

end

theorem closeEvent_state (s : State) : (closeEvent s).state = (filledEvent s).state := by
  rw [closeEvent_eq]
  split <;> simp only [CrackEvent.raise_state]

theorem closeEvent_zones (s : State) : (closeEvent s).zones = (filledEvent s).zones := by
  rw [closeEvent_eq]
  split <;> simp only [CrackEvent.raise_zones]

theorem closeEvent_notices (s : State) : (closeEvent s).notices = [] := by
  have filled : (filledEvent s).notices = [] := (notices_foldl_openTally _ _).trans (notices_settleAll _)
  rw [closeEvent_eq]
  split
  · rw [CrackEvent.raise_notices, filled]
  · exact filled

theorem closeEvent_classes (s : State) : (closeEvent s).classes =
    (settleAll (evaluateAll s)).classes ++ (if closeOpened s = [] then [] else [.crackOpened]) ++
      (if (closeFree s).length < (closeFull s).length then [.crackTableFull] else []) := by
  have filled : (filledEvent s).classes = (settleAll (evaluateAll s)).classes ++
      (if closeOpened s = [] then [] else [.crackOpened]) := by
    rw [filledEvent, classes_foldl_openTally, classes_settleAll]
    split <;> split <;> simp [addOnce]
  have new : EventClass.crackTableFull ∉ (filledEvent s).classes := by
    rw [filled, classes_settleAll]
    split <;> split <;> simp
  rw [closeEvent_eq, ← filled]
  split
  · rw [CrackEvent.raise_classes]
    exact if_neg new
  · exact (List.append_nil _).symm

theorem recordsOnly_closeEvent (s : State) : RecordsOnly s (closeEvent s).state := by
  rw [closeEvent_state]
  exact (recordsOnly_settled s).trans (recordsOnly_foldl_openTally (.refl _))

/-- Each id is opened once. -/
theorem nodup_closeOpened (s : State) : ((closeOpened s).map Prod.fst).Nodup := by
  rw [closeOpened, List.zip_eq_zip_take_min, List.map_fst_zip (by simp)]
  exact ((List.nodup_finRange _).filter _).sublist (List.take_sublist _ _)

/-! ### The state left -/

theorem crack_closeEvent_other (h : ∀ x ∈ closeOpened s, x.1 ≠ i) :
    crack i (closeEvent s).state = ((crack i s).evaluated s.cwu.threshold).settled s.cwu := by
  rw [closeEvent_state, filledEvent, crack_foldl_openTally_other (.refl _) h, crack_settleAll, crack_evaluateAll]
  rfl

theorem crack_closeEvent_opened {x : Fin Config.cracks × Fin Config.zones} (h : x ∈ closeOpened s) :
    crack x.1 (closeEvent s).state = (s.cwu.tallies.get x.2).opened s := by
  rw [closeEvent_state, filledEvent, crack_foldl_openTally_opened (.refl _) (nodup_closeOpened s) h]
  exact (recordsOnly_settled s).opened_eq

/-- What the clearing of the tallies leaves. -/
theorem RecordsOnly.cleared (h : RecordsOnly s u) (m : List Instr) : { clearTallies u with transit := m } = { s with
    cwu := { s.cwu with cracks := u.cwu.cracks, loops := u.cwu.loops, tallies := Table.fill _ {} }
    transit := m } := congrArg (fun u => { clearTallies u with transit := m }) (show u = _ from h)

/-- The close confirms record `i`. -/
@[reducible] def closeConfirms (s : State) (i : Fin Config.cracks) : Prop := ((crack i s).evaluated s.cwu.threshold).confirms s.cwu

/-- Record `i` lapses at the close. -/
@[reducible] def closeLapses (s : State) (i : Fin Config.cracks) : Prop := ((crack i s).evaluated s.cwu.threshold).lapses s.cwu

theorem loop_closeEvent (s : State) (l : Fin Config.loops) [Decidable (∃ i, closeLapses s i ∧ l ∈ (crack i s).loops)] :
    loop l (closeEvent s).state =
      if ∃ i, closeLapses s i ∧ l ∈ (crack i s).loops then { loop l s with bound := none } else loop l s := by
  rw [closeEvent_state, filledEvent, loop_foldl_openTally (.refl _), loop_settleAll]
  refine if_congr (exists_congr fun i => ?_) rfl rfl
  rw [crack_evaluateAll, Crack.evaluated_loops]
  exact Iff.rfl

theorem zones_closeEvent (s : State) : (closeEvent s).zones.Nodup ∧ ∀ z, z ∈ (closeEvent s).zones ↔
    (∃ i, (closeConfirms s i ∨ closeLapses s i) ∧ crackPassed s i.val = true ∧ (crack i s).zone = z) ∨
      ∃ x ∈ closeOpened s, crackPassed s x.1.val = true ∧ decodeStation (s.cwu.tallies.get x.2).mean s = z := by
  obtain ⟨hn, hm⟩ := zones_settleAll (evaluateAll s)
  obtain ⟨hn', hm'⟩ := zones_foldl_openTally (T := s.cwu.tallies) (xs := closeOpened s) (recordsOnly_settled s) hn
  rw [closeEvent_zones]
  refine ⟨hn', fun z => (hm' z).trans (or_congr_left ((hm z).trans (exists_congr fun i => ?_)))⟩
  rw [crack_evaluateAll, Crack.evaluated_zone]
  exact Iff.rfl

theorem classes_closeEvent (s : State) [Decidable (∃ i, closeConfirms s i ∨ closeLapses s i)] :
    (closeEvent s).classes =
      (if ∃ i, closeConfirms s i ∨ closeLapses s i then [.crackState] else []) ++
      (if closeOpened s = [] then [] else [.crackOpened]) ++
      (if (closeFree s).length < (closeFull s).length then [.crackTableFull] else []) := by
  have raised : (∃ i, (crack i (evaluateAll s)).confirms (evaluateAll s).cwu ∨
      (crack i (evaluateAll s)).lapses (evaluateAll s).cwu) ↔ ∃ i, closeConfirms s i ∨ closeLapses s i := by
    simp only [crack_evaluateAll]
    exact Iff.rfl
  rw [closeEvent_classes, classes_settleAll, if_congr raised rfl rfl]

theorem transit_takeCwuClose (s : State) : (takeCwuClose s).transit =
    s.transit ++ (closeEvent s).classes.map .attentionEventReport ++
      (closeEvent s).zones.map (crackClaim (takeCwuClose s)) := by
  have kept : (closeEvent s).state.transit = s.transit :=
    (recordsOnly_closeEvent s).same (fun t => t.transit) fun _ _ => rfl
  have ended : (takeCwuClose s).transit = (closeEvent s).state.transit ++
      (closeEvent s).classes.map .attentionEventReport ++ (closeEvent s).zones.map (crackClaim (takeCwuClose s)) ++
      (closeEvent s).notices := rfl
  rw [ended, kept, closeEvent_notices, List.append_nil]

/-- The ids free are those VACANT once settled. -/
theorem closeFree_eq (s : State) : closeFree s = (List.finRange Config.cracks).filter fun i =>
    (((crack i s).evaluated s.cwu.threshold).settled s.cwu).state == .vacant := by
  rw [closeFree, freeIds]
  refine List.filter_congr fun i _ => ?_
  rw [crack_settleAll, crack_evaluateAll]
  rfl

/-- Settles O58: the records as settled, then as opened; the zones and classes gathered on the way. -/
theorem intervalCloseAtCrackWatch : Obligations.IntervalCloseAtCrackWatch := by
  intro n s hs
  refine ⟨takeCwuClose (arrive (.cwuIntervalClose n) s), ?taken, ?parts⟩
  case taken => exact onArrival_free _ _ hs
  case parts =>
    intro judged confirms lapses settled free full opened seed
    have hs' : closeFree (arrive (.cwuIntervalClose n) s) = free := closeFree_eq _
    have hopened : closeOpened (arrive (.cwuIntervalClose n) s) = opened := congrArg (fun fs => List.zip fs full) hs'
    have hfull : closeFull (arrive (.cwuIntervalClose n) s) = full := rfl
    obtain ⟨hn, hm⟩ := zones_closeEvent (arrive (.cwuIntervalClose n) s)
    refine ⟨?frame, fun i hi => ?other, fun x hx => ?opened, fun l => ?loops, _, hn, fun z => (hm z).trans ?zones, ?transit⟩
    case frame => exact RecordsOnly.cleared (recordsOnly_closeEvent _) _
    case other => exact crack_closeEvent_other (s := arrive (.cwuIntervalClose n) s) (by rwa [hopened])
    case opened => exact crack_closeEvent_opened (s := arrive (.cwuIntervalClose n) s) (by rwa [hopened])
    case loops => exact (loop_closeEvent (arrive (.cwuIntervalClose n) s) l).trans (if_congr Iff.rfl rfl rfl)
    case zones =>
      rw [hopened]
      exact Iff.rfl
    case transit =>
      rw [transit_takeCwuClose, classes_closeEvent, hopened, hs', hfull]
      simp only [List.map_append, apply_ite (List.map _), List.map_cons, List.map_nil, List.append_assoc]
      rfl

end Sys2Proof.Machine
end
